-- ==== Sys2Proof/Word.lean ====
section
/-! DEFINITION. The plain names every file uses: wire bytes, the numbered plant items of section 1.2 and the two
message ports. -/

namespace Sys2Proof

/-- One byte on a message port (R174). -/
abbrev Byte := BitVec 8

/-- A two-byte field of a request body, high byte first on the wire (R182). -/
abbrev Half := BitVec 16

/-- Furnaces F0 to F5. -/
abbrev FurnaceId := Fin 6
/-- Supplies S0 and S1. -/
abbrev SupplyId := Fin 2
/-- Grades G0 to G15. -/
abbrev GradeId := Fin 16
/-- Cooling loops L0 to L3. -/
abbrev LoopId := Fin 4
/-- Cooling circuits C0 to C15. -/
abbrev CircuitId := Fin 16

/-- The furnace positions in ascending order. -/
def furnaceIds : List FurnaceId := [0, 1, 2, 3, 4, 5]
/-- The supplies in ascending order. -/
def supplyIds : List SupplyId := [0, 1]
/-- The grades in ascending order. -/
def gradeIds : List GradeId := [0, 1, 2, 3, 4, 5, 6, 7, 8, 9, 10, 11, 12, 13, 14, 15]
/-- The loops in ascending order. -/
def loopIds : List LoopId := [0, 1, 2, 3]
/-- The circuits in ascending order. -/
def circuitIds : List CircuitId := [0, 1, 2, 3, 4, 5, 6, 7, 8, 9, 10, 11, 12, 13, 14, 15]

/-- The two message ports (section 1.3): SUP, the supervisory computer; DECK, the operator console. -/
inductive Port where
  | sup
  | deck
  deriving DecidableEq, Repr

/-- The request kinds of the kind code table of R182, in its order. -/
inductive Kind where
  | siteSetup | supplySetup | furnaceSetup | gradeSetup | loopSetup | circuitSetup | commit | restart
  | openHeat | declareLiquid | declareEmpty | charge | closeHeat | massReport | dip | chemApprove | chemRevoke
  | serviceOut | serviceIn
  | clockSet | scheduleSet | ceilingOverride | setClass | rushAllowance | supplyReset
  | supplyHold | supplyTest | tripPoll | tripClear | tripRotate | mask | unmask
  | tapRequest | tapCancel | standbySet | standbyClear | tapStart | ladleDone | tapEnd
  | partStatus | tableReport | furnaceReport | sense | powerReport | coolingReport | tapQueueReport
  deriving DecidableEq, Repr

end Sys2Proof
end

