-- ==== Sys2Proof/Config.lean ====
section
/-! DEFINITION. What the manual leaves open as a VALUE: constants with no body, so that no proof can lean on one. -/

namespace Sys2Proof.Config

/-- DESIGN CHOICE (log entry 7), safe. The whole seconds left on a return delay timer, truncated (R129), depend on the
instants within their seconds at which the timer started and the report is taken. Time below the second is no part of
the state, so this free bit says, for the n-th report and loop l, whether the report's instant lies later within its
second than the start did. -/
opaque laterInSecond : (n : Nat) → (l : Nat) → Bool

/-- DESIGN CHOICE (log entry 8), safe. R81 computes a cap from the rating and fraction of the furnace's supply. In
CONFIGURING a furnace may name an unconfigured supply, which has neither; this free value stands for the rating term of
its cap. -/
opaque ratingTermWithoutSupply : (furnace : Nat) → Nat

end Sys2Proof.Config
end

