-- ==== Sys2Proof/Syntax.lean ====
section
/-! DEFINITION. The commands: one constructor for every row of spec/opcode_table.json. A request row stands for a frame
that has passed its CRC on a port (R176); its operands are the port, the tag, the body length and the body fields of R183
in their wire widths, with any value the wire can carry. The other rows are the part's own events. -/

namespace Sys2Proof

/-- What the link unit knows of a request frame beside its kind and fields: the port it arrived on, its tag, and the
number of bytes its body holds, N − 2 (R174), which the third check of R176 judges. -/
structure Hdr where
  port : Port
  tag : Byte
  len : Nat
  deriving DecidableEq, Repr

/-- The DEFINE fields of SUPPLY SETUP (R183); presence mask bit 0 rating, 1 dual fraction, 2 triple fraction, 3 start
time, 4 no-retry option. -/
structure SupplyBody where
  mask : Byte
  rating : Half
  dual : Byte
  triple : Byte
  startTime : Byte
  noRetry : Byte
  deriving DecidableEq, Repr

/-- The DEFINE fields of FURNACE SETUP (R7, R183). -/
structure FurnaceBody where
  capacity : Half
  coil : Half
  efficiency : Byte
  loss : Half
  gain : Byte
  heel : Half
  freezeMargin : Byte
  supply : Byte
  channel : Byte
  deriving DecidableEq, Repr

/-- The DEFINE fields of GRADE SETUP (R8, R183). -/
structure GradeBody where
  liquidus : Half
  hold : Half
  tap : Half
  bandLow : Byte
  bandHigh : Byte
  heat : Half
  meltEnergy : Half
  allowance : Byte
  extension : Byte
  deriving DecidableEq, Repr

/-- The DEFINE fields of LOOP SETUP (R9, R183). -/
structure LoopBody where
  minPressure : Half
  minTank : Byte
  returnDelay : Half
  pumpDraw : Half
  emergencyCap : Byte
  lostValve : Byte
  deriving DecidableEq, Repr

/-- The DEFINE fields of CIRCUIT SETUP (R9, R183). -/
structure CircuitBody where
  loop : Byte
  targetKind : Byte
  targetIndex : Byte
  flowWarn : Half
  flowTrip : Half
  flowHyst : Byte
  tempWarn : Byte
  tempTrip : Byte
  tempHyst : Byte
  sensing : Byte
  derate : Byte
  deriving DecidableEq, Repr

/-- The TAP REQUEST body (R182); grade entries beyond the count are ignored. -/
structure TapBody where
  id : Byte
  count : Byte
  g0 : Byte
  g1 : Byte
  g2 : Byte
  g3 : Byte
  ladles : Byte
  ladleMass : Half
  openDelay : Half
  window : Half
  pinned : Byte
  deriving DecidableEq, Repr

/-- What a station sends in its slot of a scan (R108): two values and whether its check field agrees with them. For a
circuit the values are flow and outlet temperature, for a loop primary pressure and tank level. -/
structure StationAnswer where
  first : Nat
  second : Nat
  checkAgrees : Bool
  deriving DecidableEq, Repr

/-- The twenty data slots of a scan (R108); none where the station does not answer within its slot. -/
structure Slots where
  circuits : Vector (Option StationAnswer) 16
  loops : Vector (Option StationAnswer) 4
  deriving DecidableEq, Repr

/-- The commands of spec/opcode_table.json, in its order. -/
inductive Instr where
  /-- POWER_ON (R15). -/
  | powerOn
  /-- SITE_SETUP (R4): action, count and the entries of parameter number and value. -/
  | siteSetup (h : Hdr) (action count : Byte) (params : List (Byte × Half))
  /-- SUPPLY_SETUP (R6); the fields are present for a body of the DEFINE length. -/
  | supplySetup (h : Hdr) (supply action : Byte) (body : Option SupplyBody)
  /-- FURNACE_SETUP (R7). -/
  | furnaceSetup (h : Hdr) (furnace action : Byte) (body : Option FurnaceBody)
  /-- GRADE_SETUP (R8). -/
  | gradeSetup (h : Hdr) (grade action : Byte) (body : Option GradeBody)
  /-- LOOP_SETUP (R9). -/
  | loopSetup (h : Hdr) (loop action : Byte) (body : Option LoopBody)
  /-- CIRCUIT_SETUP (R9). -/
  | circuitSetup (h : Hdr) (circuit action : Byte) (body : Option CircuitBody)
  /-- COMMIT (R12). -/
  | commit (h : Hdr)
  /-- RESTART (R16). -/
  | restart (h : Hdr)
  /-- PART_STATUS (R17). -/
  | partStatus (h : Hdr)
  /-- TABLE_REPORT (R18). -/
  | tableReport (h : Hdr) (table index : Byte)
  /-- SERVICE_OUT (R21). -/
  | serviceOut (h : Hdr) (furnace : Byte)
  /-- SERVICE_IN (R22). -/
  | serviceIn (h : Hdr) (furnace : Byte)
  /-- OPEN_HEAT (R25). -/
  | openHeat (h : Hdr) (furnace : Byte) (heat : Half) (grade : Byte) (mass : Half)
  /-- DECLARE_LIQUID (R26). -/
  | declareLiquid (h : Hdr) (furnace : Byte) (heat : Half) (grade : Byte) (mass dip : Half)
  /-- DECLARE_EMPTY (R27). -/
  | declareEmpty (h : Hdr) (furnace : Byte)
  /-- CLOSE_HEAT (R30). -/
  | closeHeat (h : Hdr) (furnace : Byte) (heat : Half)
  /-- CHARGE (R31). -/
  | charge (h : Hdr) (furnace : Byte) (mass : Half)
  /-- MASS_REPORT (R32). -/
  | massReport (h : Hdr) (furnace : Byte) (mass : Half)
  /-- CHEM_APPROVE (R34). -/
  | chemApprove (h : Hdr) (furnace : Byte) (heat : Half)
  /-- CHEM_REVOKE (R35). -/
  | chemRevoke (h : Hdr) (furnace : Byte) (heat : Half)
  /-- SENSE (R38). -/
  | sense (h : Hdr) (furnace : Byte)
  /-- FURNACE_REPORT (R39). -/
  | furnaceReport (h : Hdr) (furnace : Byte)
  /-- DIP (R53). -/
  | dip (h : Hdr) (furnace : Byte) (temp : Half) (unconditional : Byte)
  /-- CLOCK_SET (R63). -/
  | clockSet (h : Hdr) (weekday : Byte) (minute : Half) (second : Byte)
  /-- SCHEDULE_SET (R64). -/
  | scheduleSet (h : Hdr) (slot enabled days : Byte) (start ceiling : Half)
  /-- CEILING_OVERRIDE (R67). -/
  | ceilingOverride (h : Hdr) (ceiling : Half)
  /-- SET_CLASS (R75). -/
  | setClass (h : Hdr) (furnace cls : Byte)
  /-- RUSH_ALLOWANCE (R76). -/
  | rushAllowance (h : Hdr) (furnace : Byte) (seconds : Half)
  /-- POWER_REPORT (R94, R181). -/
  | powerReport (h : Hdr) (part : Byte)
  /-- SUPPLY_RESET (R102). -/
  | supplyReset (h : Hdr) (supply : Byte)
  /-- SUPPLY_HOLD (R126). -/
  | supplyHold (h : Hdr) (loop on : Byte)
  /-- SUPPLY_TEST (R127). -/
  | supplyTest (h : Hdr) (loop : Byte)
  /-- COOLING_REPORT (R129, R181). -/
  | coolingReport (h : Hdr) (part : Byte)
  /-- TRIP_ROTATE (R139). -/
  | tripRotate (h : Hdr) (source : Byte)
  /-- TRIP_POLL (R140). -/
  | tripPoll (h : Hdr)
  /-- TRIP_CLEAR (R141). -/
  | tripClear (h : Hdr) (source : Byte)
  /-- MASK (R142). -/
  | mask (h : Hdr) (source : Byte)
  /-- UNMASK (R143). -/
  | unmask (h : Hdr) (source : Byte)
  /-- TAP_REQUEST (R150). -/
  | tapRequest (h : Hdr) (body : TapBody)
  /-- TAP_CANCEL (R153). -/
  | tapCancel (h : Hdr) (id : Byte)
  /-- STANDBY_SET (R154). -/
  | standbySet (h : Hdr) (furnace standby : Byte)
  /-- STANDBY_CLEAR (R154). -/
  | standbyClear (h : Hdr) (furnace : Byte)
  /-- TAP_QUEUE_REPORT (R163, R181). -/
  | tapQueueReport (h : Hdr) (part : Byte)
  /-- TAP_START (R166). -/
  | tapStart (h : Hdr) (id : Byte)
  /-- LADLE_DONE (R168). -/
  | ladleDone (h : Hdr) (id : Byte) (mass : Half)
  /-- TAP_END (R170). -/
  | tapEnd (h : Hdr) (id : Byte)
  /-- UNKNOWN_KIND (R176): a CRC-good frame whose kind byte is no request kind. -/
  | unknownKind (h : Hdr) (kind : Byte)
  /-- BAD_CRC_FRAME (R175): the length byte and the stored bytes of a complete frame whose CRC disagrees. -/
  | badCrcFrame (port : Port) (bytes : List Byte)
  /-- INTER_BYTE_TIMEOUT (R175): more than 20 ms without a byte. -/
  | interByteTimeout (port : Port)
  /-- TRANSMIT_START (R179). -/
  | transmitStart (port : Port)
  /-- FRAME_SENT (R179). -/
  | frameSent (port : Port)
  /-- UPTIME_STEP (R62). -/
  | uptimeStep
  /-- MODEL_INTERVAL (R43): the furnace's model interval timer expires. -/
  | modelInterval (f : FurnaceId)
  /-- PERIOD_PASS (R88): the period timer expires. -/
  | periodPass
  /-- SCAN_PERIOD_EXPIRY (R106). -/
  | scanPeriodExpiry
  /-- STATION_START (R107). -/
  | stationStart
  /-- SCAN_COMPLETION (R109): the stop frame, with what the twenty slots held. -/
  | scanCompletion (slots : Slots)
  /-- START_TIMER_EXPIRY (R97). -/
  | startTimerExpiry (u : SupplyId)
  /-- RETRY_TIMER_EXPIRY (R99). -/
  | retryTimerExpiry (u : SupplyId)
  /-- RESET_HOLD_TIMER_EXPIRY (R99). -/
  | resetHoldTimerExpiry (u : SupplyId)
  /-- RESET_PULSE_END (R99). -/
  | resetPulseEnd (u : SupplyId)
  /-- STABLE_RUN_TIMER_EXPIRY (R98). -/
  | stableRunTimerExpiry (u : SupplyId)
  /-- RUNNING_INPUT_CHANGE (R98): the new level of the supply's running input. -/
  | runningInputChange (u : SupplyId) (asserted : Bool)
  /-- FAULT_INPUT_CHANGE (R99): the new level of the supply's fault input. -/
  | faultInputChange (u : SupplyId) (asserted : Bool)
  /-- RETURN_DELAY_EXPIRY (R123). -/
  | returnDelayExpiry (l : LoopId)
  /-- OPEN_TIME (R151): the open time of the WAITING record with this id. -/
  | openTime (id : Nat)
  /-- CLOSE_TIME (R152): the close time of the record with this id. -/
  | closeTime (id : Nat)
  /-- LENGTH_BYTE_OUT_OF_RANGE (R175): the byte received in LENGTH. -/
  | lengthByteOutOfRange (port : Port) (byte : Byte)
  deriving DecidableEq, Repr

end Sys2Proof
end

