-- ==== Sys2Proof/Decode.lean ====
section
/-! DEFINITION. From the bytes of a frame to a command and back (R174 to R176, R180, R182, R183), the CRC of R175, and
the host's `decodeTableWord`. -/

namespace Sys2Proof

/-! ## The CRC of R175 -/

/-- One bit of the CRC register: polynomial x^16 + x^12 + x^5 + 1, most significant bit first. -/
def crcBit (c : BitVec 16) : BitVec 16 :=
  if c.msb then (c <<< 1) ^^^ 0x1021#16 else c <<< 1

/-- One byte into the CRC register, without reflection. -/
def crcByte (c : BitVec 16) (b : Byte) : BitVec 16 :=
  crcBit (crcBit (crcBit (crcBit (crcBit (crcBit (crcBit (crcBit (c ^^^ (b ++ 0#8)))))))))

/-- The CRC-16 of R175: initial value 0xFFFF, no final inversion. -/
def crc16 (bytes : List Byte) : BitVec 16 := bytes.foldl crcByte 0xFFFF#16

/-- The high byte of a two-byte field. -/
def hiByte (x : Half) : Byte := x.extractLsb' 8 8
/-- The low byte of a two-byte field. -/
def loByte (x : Half) : Byte := x.extractLsb' 0 8
/-- A two-byte field, high byte first (R182). -/
def half (hi lo : Byte) : Half := hi ++ lo

/-! ## Kinds (R182) and authority (R180) -/

/-- The kind byte of a request kind. -/
def Kind.code : Kind → Byte
  | .siteSetup => 0x01 | .supplySetup => 0x02 | .furnaceSetup => 0x03 | .gradeSetup => 0x04
  | .loopSetup => 0x05 | .circuitSetup => 0x06 | .commit => 0x07 | .restart => 0x08
  | .openHeat => 0x21 | .declareLiquid => 0x22 | .declareEmpty => 0x23 | .charge => 0x24
  | .closeHeat => 0x25 | .massReport => 0x26 | .dip => 0x27 | .chemApprove => 0x28
  | .chemRevoke => 0x29 | .serviceOut => 0x2A | .serviceIn => 0x2B
  | .clockSet => 0x41 | .scheduleSet => 0x42 | .ceilingOverride => 0x43 | .setClass => 0x44
  | .rushAllowance => 0x45 | .supplyReset => 0x46
  | .supplyHold => 0x61 | .supplyTest => 0x62 | .tripPoll => 0x63 | .tripClear => 0x64
  | .tripRotate => 0x65 | .mask => 0x66 | .unmask => 0x67
  | .tapRequest => 0x81 | .tapCancel => 0x82 | .standbySet => 0x83 | .standbyClear => 0x84
  | .tapStart => 0x85 | .ladleDone => 0x86 | .tapEnd => 0x87
  | .partStatus => 0xA1 | .tableReport => 0xA2 | .furnaceReport => 0xA3 | .sense => 0xA4
  | .powerReport => 0xA5 | .coolingReport => 0xA6 | .tapQueueReport => 0xA7

/-- The request kinds, in the order of the kind code table. -/
def allKinds : List Kind :=
  [.siteSetup, .supplySetup, .furnaceSetup, .gradeSetup, .loopSetup, .circuitSetup, .commit, .restart,
   .openHeat, .declareLiquid, .declareEmpty, .charge, .closeHeat, .massReport, .dip, .chemApprove, .chemRevoke,
   .serviceOut, .serviceIn] ++
  [.clockSet, .scheduleSet, .ceilingOverride, .setClass, .rushAllowance, .supplyReset,
   .supplyHold, .supplyTest, .tripPoll, .tripClear, .tripRotate, .mask, .unmask] ++
  [.tapRequest, .tapCancel, .standbySet, .standbyClear, .tapStart, .ladleDone, .tapEnd,
   .partStatus, .tableReport, .furnaceReport, .sense, .powerReport, .coolingReport, .tapQueueReport]

/-- The request kind a kind byte names, if any (second check of R176). -/
def Kind.ofCode (b : Byte) : Option Kind := allKinds.find? (fun k => k.code == b)

/-- R180: the kinds DECK may send. SUP may send every kind. -/
def Kind.deckMay : Kind → Bool
  | .openHeat | .declareLiquid | .declareEmpty | .charge | .closeHeat | .massReport | .dip | .setClass
  | .tripPoll | .tripClear | .supplyReset | .tapStart | .ladleDone | .tapEnd
  | .partStatus | .tableReport | .furnaceReport | .sense | .powerReport | .coolingReport | .tapQueueReport => true
  | .siteSetup | .supplySetup | .furnaceSetup | .gradeSetup | .loopSetup | .circuitSetup | .commit | .restart
  | .chemApprove | .chemRevoke | .serviceOut | .serviceIn | .clockSet | .scheduleSet | .ceilingOverride
  | .rushAllowance | .supplyHold | .supplyTest | .tripRotate | .mask | .unmask
  | .tapRequest | .tapCancel | .standbySet | .standbyClear => false

/-- R180: whether a port may send a kind. -/
def Kind.permitted (k : Kind) : Port → Bool
  | .sup => true
  | .deck => k.deckMay

/-! ## Bodies (R183) -/

/-- The parameter entries of a SITE SETUP body: number, then value high byte first. -/
def siteParams : List Byte → List (Byte × Half)
  | p :: hi :: lo :: rest => (p, half hi lo) :: siteParams rest
  | _ => []

/-- The bytes of SITE SETUP parameter entries. -/
def siteParamBytes : List (Byte × Half) → List Byte
  | [] => []
  | (p, v) :: rest => p :: hiByte v :: loByte v :: siteParamBytes rest

/-- The DEFINE fields of a SUPPLY SETUP body, where the body has the DEFINE length. -/
def supplyBody : List Byte → Option SupplyBody
  | [m, r1, r0, d, t, st, nr] => some ⟨m, half r1 r0, d, t, st, nr⟩
  | _ => none

def SupplyBody.bytes (b : SupplyBody) : List Byte :=
  [b.mask, hiByte b.rating, loByte b.rating, b.dual, b.triple, b.startTime, b.noRetry]

/-- The DEFINE fields of a FURNACE SETUP body. -/
def furnaceBody : List Byte → Option FurnaceBody
  | [c1, c0, k1, k0, e, l1, l0, g, h1, h0, m, u, ch] =>
    some ⟨half c1 c0, half k1 k0, e, half l1 l0, g, half h1 h0, m, u, ch⟩
  | _ => none

def FurnaceBody.bytes (b : FurnaceBody) : List Byte :=
  [hiByte b.capacity, loByte b.capacity, hiByte b.coil, loByte b.coil, b.efficiency, hiByte b.loss, loByte b.loss,
   b.gain, hiByte b.heel, loByte b.heel, b.freezeMargin, b.supply, b.channel]

/-- The DEFINE fields of a GRADE SETUP body. -/
def gradeBody : List Byte → Option GradeBody
  | [q1, q0, h1, h0, t1, t0, bl, bh, c1, c0, m1, m0, a, e] =>
    some ⟨half q1 q0, half h1 h0, half t1 t0, bl, bh, half c1 c0, half m1 m0, a, e⟩
  | _ => none

def GradeBody.bytes (b : GradeBody) : List Byte :=
  [hiByte b.liquidus, loByte b.liquidus, hiByte b.hold, loByte b.hold, hiByte b.tap, loByte b.tap, b.bandLow,
   b.bandHigh, hiByte b.heat, loByte b.heat, hiByte b.meltEnergy, loByte b.meltEnergy, b.allowance, b.extension]

/-- The DEFINE fields of a LOOP SETUP body. -/
def loopBody : List Byte → Option LoopBody
  | [p1, p0, t, d1, d0, w1, w0, e, v] => some ⟨half p1 p0, t, half d1 d0, half w1 w0, e, v⟩
  | _ => none

def LoopBody.bytes (b : LoopBody) : List Byte :=
  [hiByte b.minPressure, loByte b.minPressure, b.minTank, hiByte b.returnDelay, loByte b.returnDelay,
   hiByte b.pumpDraw, loByte b.pumpDraw, b.emergencyCap, b.lostValve]

/-- The DEFINE fields of a CIRCUIT SETUP body. -/
def circuitBody : List Byte → Option CircuitBody
  | [l, tk, ti, w1, w0, t1, t0, fh, tw, tt, th, se, de] =>
    some ⟨l, tk, ti, half w1 w0, half t1 t0, fh, tw, tt, th, se, de⟩
  | _ => none

def CircuitBody.bytes (b : CircuitBody) : List Byte :=
  [b.loop, b.targetKind, b.targetIndex, hiByte b.flowWarn, loByte b.flowWarn, hiByte b.flowTrip, loByte b.flowTrip,
   b.flowHyst, b.tempWarn, b.tempTrip, b.tempHyst, b.sensing, b.derate]

def TapBody.bytes (b : TapBody) : List Byte :=
  [b.id, b.count, b.g0, b.g1, b.g2, b.g3, b.ladles, hiByte b.ladleMass, loByte b.ladleMass, hiByte b.openDelay,
   loByte b.openDelay, hiByte b.window, loByte b.window, b.pinned]

/-- The byte of a body at an index; 0 beyond its end, where the third check of R176 refuses the frame anyway. -/
def byteAt (body : List Byte) (i : Nat) : Byte := body.getD i 0

/-- The two-byte field of a body at an index, high byte first. -/
def halfAt (body : List Byte) (i : Nat) : Half := half (byteAt body i) (byteAt body (i + 1))

/-- The setup requests carry their DEFINE fields only where the action byte is 0 (R183). -/
def defineFields {α : Type} (read : List Byte → Option α) (body : List Byte) : Option α :=
  if byteAt body 1 = 0 then read (body.drop 2) else none

/-- R176, R183: the command that a frame of this kind, tag and body is. Every frame is a command: one of an unknown kind
is UNKNOWN_KIND, and one whose body has another length keeps that length in its header, for the third check of R176. -/
def decodeFrame (port : Port) (kind tag : Byte) (body : List Byte) : Instr :=
  let h : Hdr := ⟨port, tag, body.length⟩
  let b := byteAt body
  let w := halfAt body
  match Kind.ofCode kind with
  | none => .unknownKind h kind
  | some .siteSetup =>
    .siteSetup h (b 0) (b 1) (if body.length = 2 + 3 * (b 1).toNat then siteParams (body.drop 2) else [])
  | some .supplySetup => .supplySetup h (b 0) (b 1) (defineFields supplyBody body)
  | some .furnaceSetup => .furnaceSetup h (b 0) (b 1) (defineFields furnaceBody body)
  | some .gradeSetup => .gradeSetup h (b 0) (b 1) (defineFields gradeBody body)
  | some .loopSetup => .loopSetup h (b 0) (b 1) (defineFields loopBody body)
  | some .circuitSetup => .circuitSetup h (b 0) (b 1) (defineFields circuitBody body)
  | some .commit => .commit h
  | some .restart => .restart h
  | some .openHeat => .openHeat h (b 0) (w 1) (b 3) (w 4)
  | some .declareLiquid => .declareLiquid h (b 0) (w 1) (b 3) (w 4) (w 6)
  | some .declareEmpty => .declareEmpty h (b 0)
  | some .charge => .charge h (b 0) (w 1)
  | some .closeHeat => .closeHeat h (b 0) (w 1)
  | some .massReport => .massReport h (b 0) (w 1)
  | some .dip => .dip h (b 0) (w 1) (b 3)
  | some .chemApprove => .chemApprove h (b 0) (w 1)
  | some .chemRevoke => .chemRevoke h (b 0) (w 1)
  | some .serviceOut => .serviceOut h (b 0)
  | some .serviceIn => .serviceIn h (b 0)
  | some .clockSet => .clockSet h (b 0) (w 1) (b 3)
  | some .scheduleSet => .scheduleSet h (b 0) (b 1) (b 2) (w 3) (w 5)
  | some .ceilingOverride => .ceilingOverride h (w 0)
  | some .setClass => .setClass h (b 0) (b 1)
  | some .rushAllowance => .rushAllowance h (b 0) (w 1)
  | some .supplyReset => .supplyReset h (b 0)
  | some .supplyHold => .supplyHold h (b 0) (b 1)
  | some .supplyTest => .supplyTest h (b 0)
  | some .tripPoll => .tripPoll h
  | some .tripClear => .tripClear h (b 0)
  | some .tripRotate => .tripRotate h (b 0)
  | some .mask => .mask h (b 0)
  | some .unmask => .unmask h (b 0)
  | some .tapRequest =>
    .tapRequest h ⟨b 0, b 1, b 2, b 3, b 4, b 5, b 6, w 7, w 9, w 11, b 13⟩
  | some .tapCancel => .tapCancel h (b 0)
  | some .standbySet => .standbySet h (b 0) (b 1)
  | some .standbyClear => .standbyClear h (b 0)
  | some .tapStart => .tapStart h (b 0)
  | some .ladleDone => .ladleDone h (b 0) (w 1)
  | some .tapEnd => .tapEnd h (b 0)
  | some .partStatus => .partStatus h
  | some .tableReport => .tableReport h (b 0) (b 1)
  | some .furnaceReport => .furnaceReport h (b 0)
  | some .sense => .sense h (b 0)
  | some .powerReport => .powerReport h (b 0)
  | some .coolingReport => .coolingReport h (b 0)
  | some .tapQueueReport => .tapQueueReport h (b 0)

/-- The header, kind and body bytes of a request command, from the layouts of R182 and R183; none for the part's own
events. -/
def requestBytes : Instr → Option (Hdr × Kind × List Byte)
  | .siteSetup h a n ps => some (h, .siteSetup, a :: n :: siteParamBytes ps)
  | .supplySetup h i a b => some (h, .supplySetup, i :: a :: (b.map SupplyBody.bytes).getD [])
  | .furnaceSetup h i a b => some (h, .furnaceSetup, i :: a :: (b.map FurnaceBody.bytes).getD [])
  | .gradeSetup h i a b => some (h, .gradeSetup, i :: a :: (b.map GradeBody.bytes).getD [])
  | .loopSetup h i a b => some (h, .loopSetup, i :: a :: (b.map LoopBody.bytes).getD [])
  | .circuitSetup h i a b => some (h, .circuitSetup, i :: a :: (b.map CircuitBody.bytes).getD [])
  | .commit h => some (h, .commit, [])
  | .restart h => some (h, .restart, [])
  | .partStatus h => some (h, .partStatus, [])
  | .tableReport h t i => some (h, .tableReport, [t, i])
  | .serviceOut h f => some (h, .serviceOut, [f])
  | .serviceIn h f => some (h, .serviceIn, [f])
  | .openHeat h f n g m => some (h, .openHeat, [f, hiByte n, loByte n, g, hiByte m, loByte m])
  | .declareLiquid h f n g m d =>
    some (h, .declareLiquid, [f, hiByte n, loByte n, g, hiByte m, loByte m, hiByte d, loByte d])
  | .declareEmpty h f => some (h, .declareEmpty, [f])
  | .closeHeat h f n => some (h, .closeHeat, [f, hiByte n, loByte n])
  | .charge h f m => some (h, .charge, [f, hiByte m, loByte m])
  | .massReport h f m => some (h, .massReport, [f, hiByte m, loByte m])
  | .chemApprove h f n => some (h, .chemApprove, [f, hiByte n, loByte n])
  | .chemRevoke h f n => some (h, .chemRevoke, [f, hiByte n, loByte n])
  | .sense h f => some (h, .sense, [f])
  | .furnaceReport h f => some (h, .furnaceReport, [f])
  | .dip h f t u => some (h, .dip, [f, hiByte t, loByte t, u])
  | .clockSet h d m x => some (h, .clockSet, [d, hiByte m, loByte m, x])
  | .scheduleSet h i e d st c =>
    some (h, .scheduleSet, [i, e, d, hiByte st, loByte st, hiByte c, loByte c])
  | .ceilingOverride h c => some (h, .ceilingOverride, [hiByte c, loByte c])
  | .setClass h f c => some (h, .setClass, [f, c])
  | .rushAllowance h f x => some (h, .rushAllowance, [f, hiByte x, loByte x])
  | .powerReport h p => some (h, .powerReport, [p])
  | .supplyReset h u => some (h, .supplyReset, [u])
  | .supplyHold h l x => some (h, .supplyHold, [l, x])
  | .supplyTest h l => some (h, .supplyTest, [l])
  | .coolingReport h p => some (h, .coolingReport, [p])
  | .tripRotate h c => some (h, .tripRotate, [c])
  | .tripPoll h => some (h, .tripPoll, [])
  | .tripClear h c => some (h, .tripClear, [c])
  | .mask h c => some (h, .mask, [c])
  | .unmask h c => some (h, .unmask, [c])
  | .tapRequest h b => some (h, .tapRequest, b.bytes)
  | .tapCancel h i => some (h, .tapCancel, [i])
  | .standbySet h f x => some (h, .standbySet, [f, x])
  | .standbyClear h f => some (h, .standbyClear, [f])
  | .tapQueueReport h p => some (h, .tapQueueReport, [p])
  | .tapStart h i => some (h, .tapStart, [i])
  | .ladleDone h i m => some (h, .ladleDone, [i, hiByte m, loByte m])
  | .tapEnd h i => some (h, .tapEnd, [i])
  | .powerOn => none
  | .unknownKind _ _ => none
  | .badCrcFrame _ _ => none
  | .interByteTimeout _ => none
  | .transmitStart _ => none
  | .frameSent _ => none
  | .uptimeStep => none
  | .modelInterval _ => none
  | .periodPass => none
  | .scanPeriodExpiry => none
  | .stationStart => none
  | .scanCompletion _ => none
  | .startTimerExpiry _ => none
  | .retryTimerExpiry _ => none
  | .resetHoldTimerExpiry _ => none
  | .resetPulseEnd _ => none
  | .stableRunTimerExpiry _ => none
  | .runningInputChange _ _ => none
  | .faultInputChange _ _ => none
  | .returnDelayExpiry _ => none
  | .openTime _ => none
  | .closeTime _ => none
  | .lengthByteOutOfRange _ _ => none

/-- R174, R182: the bytes of a frame: sync, length, kind, tag, body and CRC, high byte first. -/
def frameBytes (kind tag : Byte) (body : List Byte) : List Byte :=
  let covered := BitVec.ofNat 8 (body.length + 2) :: kind :: tag :: body
  let crc := crc16 covered
  0xA5#8 :: covered ++ [hiByte crc, loByte crc]

/-- The host's question: the command a word spells by the bits of spec/opcode_table.json. The table gives no row any
bits (its "fields" are empty and it has no pattern), so no word spells a command; the frames' own encoding is
`decodeFrame` (log entry 33). -/
def decodeTableWord (_nbits _w : Nat) : Option Instr := none

end Sys2Proof
end

