-- ==== Sys2Proof/WellFormed.lean ====
section
/-! DEFINITION. Which commands can occur: an operand list that no frame and no event of the part has is ill formed. A
meaning is total all the same; what it answers on an ill-formed command is log entry 19. -/

namespace Sys2Proof

/-- A body holds at most 198 bytes, since N is at most 200 (R174, R175). -/
def Hdr.fits (h : Hdr) : Bool := h.len ≤ 198

/-- The DEFINE fields of a setup request are present exactly where the action is DEFINE and the body has the DEFINE
length (R183). -/
def setupFits {α : Type} (h : Hdr) (action : Byte) (body : Option α) (defineLen : Nat) : Bool :=
  h.fits && (body.isSome == (action == 0 && h.len == defineLen))

/-- The entries of SITE SETUP are present exactly where the length is the one its count gives (R183). -/
def siteFits (h : Hdr) (count : Byte) (params : List (Byte × Half)) : Bool :=
  h.fits && (if h.len == 2 + 3 * count.toNat then params.length == count.toNat else params.isEmpty)

/-- R175: a complete frame whose CRC disagrees: a length byte 2 to 200, N + 2 stored bytes, the last two of them not the
CRC of the rest. -/
def badFrameFits : List Byte → Bool
  | [] => false
  | n :: stored =>
    2 ≤ n.toNat && n.toNat ≤ 200 && stored.length == n.toNat + 2 &&
      !(stored.drop n.toNat ==
        [hiByte (crc16 (n :: stored.take n.toNat)), loByte (crc16 (n :: stored.take n.toNat))])

/-- R175: a length byte of 0, 1 or 201 to 255. -/
def lengthByteBad (b : Byte) : Bool := b.toNat < 2 || 200 < b.toNat

/-- R148: a request id. -/
def idFits (id : Nat) : Bool := 1 ≤ id && id ≤ 255

/-- The commands that can occur. -/
def wellFormed : Instr → Bool
  | .siteSetup h _ n ps => siteFits h n ps
  | .supplySetup h _ a b => setupFits h a b 9
  | .furnaceSetup h _ a b => setupFits h a b 15
  | .gradeSetup h _ a b => setupFits h a b 16
  | .loopSetup h _ a b => setupFits h a b 11
  | .circuitSetup h _ a b => setupFits h a b 15
  | .commit h | .restart h | .partStatus h | .tripPoll h => h.fits
  | .tableReport h _ _ | .setClass h _ _ | .supplyHold h _ _ | .standbySet h _ _ => h.fits
  | .serviceOut h _ | .serviceIn h _ | .declareEmpty h _ | .sense h _ | .furnaceReport h _ => h.fits
  | .supplyReset h _ | .supplyTest h _ | .tripClear h _ | .tripRotate h _ | .mask h _ | .unmask h _ => h.fits
  | .tapCancel h _ | .standbyClear h _ | .tapStart h _ | .tapEnd h _ => h.fits
  | .powerReport h _ | .coolingReport h _ | .tapQueueReport h _ => h.fits
  | .openHeat h _ _ _ _ => h.fits
  | .declareLiquid h _ _ _ _ _ => h.fits
  | .closeHeat h _ _ | .charge h _ _ | .massReport h _ _ | .chemApprove h _ _ | .chemRevoke h _ _ => h.fits
  | .dip h _ _ _ | .clockSet h _ _ _ => h.fits
  | .scheduleSet h _ _ _ _ _ => h.fits
  | .ceilingOverride h _ => h.fits
  | .rushAllowance h _ _ | .ladleDone h _ _ => h.fits
  | .tapRequest h _ => h.fits
  | .unknownKind h k => h.fits && (Kind.ofCode k).isNone
  | .badCrcFrame _ bytes => badFrameFits bytes
  | .lengthByteOutOfRange _ b => lengthByteBad b
  | .openTime id | .closeTime id => idFits id
  | .powerOn | .uptimeStep | .periodPass | .scanPeriodExpiry | .stationStart => true
  | .interByteTimeout _ | .transmitStart _ | .frameSent _ => true
  | .modelInterval _ | .scanCompletion _ | .returnDelayExpiry _ => true
  | .startTimerExpiry _ | .retryTimerExpiry _ | .resetHoldTimerExpiry _ | .resetPulseEnd _ => true
  | .stableRunTimerExpiry _ | .runningInputChange _ _ | .faultInputChange _ _ => true

/-- A request command whose header length is the length of the body its operands spell: the frames that pass the third
check of R176, for which decoding the encoding gives the command back. -/
def wellSized (i : Instr) : Bool :=
  match requestBytes i with
  | some (h, _, body) => h.len == body.length && wellFormed i
  | none => false

end Sys2Proof
end

