-- ==== Sys2Proof/Machine/Tables.lean ====
section
/-! DEFINITION. The configuration tables of the shop tables block (R2 to R9): what an entry holds. An unconfigured entry
is `none`. -/

namespace Sys2Proof.Machine

/-- R11. -/
inductive PartState where
  | configuring
  | running
  deriving DecidableEq, Repr

/-- The positions of a changeover valve (R119). -/
inductive Valve where
  | primary
  | emergency
  deriving DecidableEq, Repr

/-- R9: the sensing of a circuit. -/
inductive Sensing where
  | latching
  | live
  deriving DecidableEq, Repr

/-- R9: the target of a circuit. -/
inductive Target where
  | furnace (f : FurnaceId)
  | supply (u : SupplyId)
  | nothing
  deriving DecidableEq, Repr

/-- R4: the site table, always configured. -/
structure Site where
  scanPeriod : Nat
  alarmStarts : Bool
  starvFloor : Nat
  starvLimit : Nat
  starvDuration : Nat
  defaultCeiling : Nat
  baseDraw : Nat
  dipTolerance : Nat
  dipAge : Nat
  autoRotate : Bool
  deriving DecidableEq, Repr

/-- R6: a supply entry. -/
structure SupplyCfg where
  rating : Nat
  dual : Nat
  triple : Nat
  startTime : Nat
  noRetry : Bool
  deriving DecidableEq, Repr

/-- R7: a furnace entry. -/
structure FurnaceCfg where
  capacity : Nat
  coil : Nat
  efficiency : Nat
  loss : Nat
  gain : Nat
  heel : Nat
  freezeMargin : Nat
  supply : SupplyId
  channel : Fin 3
  deriving DecidableEq, Repr

/-- R8: a grade entry. -/
structure GradeCfg where
  liquidus : Nat
  hold : Nat
  tap : Nat
  bandLow : Nat
  bandHigh : Nat
  heat : Nat
  meltEnergy : Nat
  allowance : Nat
  extension : Nat
  deriving DecidableEq, Repr

/-- R9: a loop entry. -/
structure LoopCfg where
  minPressure : Nat
  minTank : Nat
  returnDelay : Nat
  pumpDraw : Nat
  emergencyCap : Nat
  lostValve : Valve
  deriving DecidableEq, Repr

/-- R9: a circuit entry. -/
structure CircuitCfg where
  loop : LoopId
  target : Target
  flowWarn : Nat
  flowTrip : Nat
  flowHyst : Nat
  tempWarn : Nat
  tempTrip : Nat
  tempHyst : Nat
  sensing : Sensing
  derate : Nat
  deriving DecidableEq, Repr

/-- R2: the six tables. -/
structure Tables where
  site : Site
  supply : Vector (Option SupplyCfg) 2
  furnace : Vector (Option FurnaceCfg) 6
  grade : Vector (Option GradeCfg) 16
  loop : Vector (Option LoopCfg) 4
  circuit : Vector (Option CircuitCfg) 16
  deriving DecidableEq, Repr

/-- R4: the site parameters at power-on. -/
def Site.defaults : Site :=
  { scanPeriod := 500, alarmStarts := true, starvFloor := 10, starvLimit := 60, starvDuration := 20,
    defaultCeiling := 5000, baseDraw := 0, dipTolerance := 20, dipAge := 600, autoRotate := false }

/-- R15: the tables at power-on. -/
def Tables.reset : Tables :=
  { site := Site.defaults
    supply := Vector.replicate 2 none
    furnace := Vector.replicate 6 none
    grade := Vector.replicate 16 none
    loop := Vector.replicate 4 none
    circuit := Vector.replicate 16 none }

/-- R18: the tables a TABLE REPORT or a consistency refusal names, in the order of their codes (R183). -/
inductive TableKind where
  | site | furnace | supply | grade | loop | circuit
  deriving DecidableEq, Repr

/-- R10: the check codes of the consistency checks, in the order of the table. -/
inductive CheckCode where
  | noSupply | channelTaken | gradeOrder | noLoop | noTarget | flowOrder | tempOrder
  deriving DecidableEq, Repr

/-- One table entry as a reply carries it (R3, R18): the configured flag and, for a configured entry, its fields. -/
inductive TableEntry where
  | site (e : Site)
  | supply (e : Option SupplyCfg)
  | furnace (e : Option FurnaceCfg)
  | grade (e : Option GradeCfg)
  | loop (e : Option LoopCfg)
  | circuit (e : Option CircuitCfg)
  deriving DecidableEq, Repr

end Sys2Proof.Machine
end

