-- ==== Sys2Proof/Machine/Records.lean ====
section
/-! DEFINITION. The records the blocks keep (R19, R37, R41, R64, R73, R95, R105, R110, R119, R131, R148) and the names
their fields take. -/

namespace Sys2Proof.Machine

/-! ## The furnace record (R19) -/

/-- R19: service state. -/
inductive Service where
  | inService
  | reline
  deriving DecidableEq, Repr

/-- R19: heat phase. -/
inductive Phase where
  | undeclared | empty | melting | superheat | holding | tapping
  deriving DecidableEq, Repr

/-- R23: the cause codes of a phase change, in the order of the table. -/
inductive PhaseCause where
  | openHeat | declareLiquid | declareEmpty | meltEnergy | meltDip | setpoint | tapHeat | charge | tapStart | tapEnd
  deriving DecidableEq, Repr

/-- R156: the blocking reasons, in the order of the table. -/
inductive Blocking where
  | outOfService | notHolding | tempLow | tempHigh | dipStale | dipPending | tempUnknown | chemPending | overheld
  | cooling | supply | massLow
  deriving DecidableEq, Repr

/-- A trip source (R131): a circuit or a loop. -/
inductive Source where
  | circuit (c : CircuitId)
  | loop (l : LoopId)
  deriving DecidableEq, Repr

/-- R37, R136: the COOLING codes. -/
inductive CoolingCode where
  | circuitTrip | circuitLost | loopLost
  deriving DecidableEq, Repr

/-- R37: the TAP codes a fault sense record can hold. -/
inductive TapFaultCode where
  | cooling | mass | temperature
  deriving DecidableEq, Repr

/-- R37: the fault sense record. One constructor for each class, with exactly the fields the class has; every class but
NONE carries the uptime stamp of the write. -/
inductive FaultSense where
  | none
  | cooling (code : CoolingCode) (source : Source) (stamp : Nat)
  | supplyFailed (u : SupplyId) (stamp : Nat)
  | tap (code : TapFaultCode) (id : Nat) (ladlesDone failingLadle : Nat) (stamp : Nat)
  | tempUnknown (stamp : Nat)
  | overheld (stamp : Nat)
  deriving DecidableEq, Repr

/-- R41: a dip as the bath sub-record keeps it. -/
structure Dip where
  temp : Nat
  stamp : Nat
  deriving DecidableEq, Repr

/-- R41: the bath sub-record. -/
structure Bath where
  required : Option Nat
  progress : Option Nat
  estimate : Option Nat
  jacc : Int
  lastDip : Option Dip
  pendingDip : Option Dip
  disagreements : Nat
  energyCount : Nat
  deriving DecidableEq, Repr

/-- R74: the classes, by rising weight. -/
inductive PowerClass where
  | defer | economy | standard | expedite | critical
  deriving DecidableEq, Repr

/-- R73: the power sub-record. -/
structure Power where
  setClass : PowerClass
  effClass : PowerClass
  rush : Nat
  starvCounter : Nat
  starvLeft : Option Nat
  demand : Nat
  cap : Nat
  need : Nat
  grant : Nat
  deriving DecidableEq, Repr

/-- R19: the furnace record with its sub-records. -/
structure Furnace where
  service : Service
  phase : Phase
  heatNo : Option Nat
  grade : Option GradeId
  mass : Nat
  approved : Bool
  allowance : Option Nat
  extensions : Nat
  overheld : Bool
  freezeRisk : Bool
  tempUnknown : Bool
  energyWh : Nat
  setpoint : Option Nat
  assigned : Option Nat
  tapReady : Bool
  blocking : List Blocking
  fault : FaultSense
  bath : Bath
  power : Power
  deriving DecidableEq, Repr

/-- R42, column "New". -/
def Bath.fresh : Bath :=
  { required := none, progress := none, estimate := none, jacc := 0, lastDip := none, pendingDip := none,
    disagreements := 0, energyCount := 0 }

/-- R73, column "New". -/
def Power.fresh : Power :=
  { setClass := .standard, effClass := .standard, rush := 0, starvCounter := 0, starvLeft := none,
    demand := 0, cap := 0, need := 0, grant := 0 }

/-- R20, column "New". -/
def Furnace.fresh : Furnace :=
  { service := .inService, phase := .undeclared, heatNo := none, grade := none, mass := 0, approved := false,
    allowance := none, extensions := 0, overheld := false, freezeRisk := false, tempUnknown := false, energyWh := 0,
    setpoint := none, assigned := none, tapReady := false, blocking := [], fault := .none, bath := Bath.fresh,
    power := Power.fresh }

/-! ## Budget unit (R62 to R69) -/

/-- R62: a set shop clock. -/
structure Clock where
  weekday : Nat
  minute : Nat
  second : Nat
  deriving DecidableEq, Repr

/-- R64: a ceiling schedule slot; bit n of the day set is weekday n. -/
structure Slot where
  enabled : Bool
  days : BitVec 7
  start : Nat
  ceiling : Nat
  deriving DecidableEq, Repr

/-- R66: the origin of the ceiling in force. -/
inductive Origin where
  | default
  | schedule (slot : Fin 12)
  | override
  deriving DecidableEq, Repr

/-- R62 to R69: what the budget unit holds; the clock is none while UNSET. -/
structure Budget where
  clock : Option Clock
  slots : Vector Slot 12
  ceiling : Nat
  origin : Origin
  draw : Nat
  site : Nat
  deriving DecidableEq, Repr

/-- R64, power-on value. -/
def Slot.fresh : Slot := { enabled := false, days := 0, start := 0, ceiling := 0 }

/-- R62, R64, R66, R68, R69 at power-on. -/
def Budget.reset : Budget :=
  { clock := none, slots := Vector.replicate 12 Slot.fresh, ceiling := 5000, origin := .default, draw := 0,
    site := 5000 }

/-! ## Supply output unit (R95) -/

/-- R95: start-supervision states. -/
inductive SupplyState where
  | idle | starting | running | retryWait | resetting | failed
  deriving DecidableEq, Repr

/-- R95: the timers of a supply. Each runs in one state only, so at most one runs at a time. -/
inductive SupplyTimer where
  | start | retry | resetHold | stableRun
  deriving DecidableEq, Repr

/-- A running supply timer and the length, in seconds, it was started with. -/
structure RunningTimer where
  which : SupplyTimer
  seconds : Nat
  deriving DecidableEq, Repr

/-- R95: what the supply output unit holds for a supply. -/
structure Supply where
  state : SupplyState
  attempts : Nat
  total : Nat
  timer : Option RunningTimer
  resetOut : Bool
  deriving DecidableEq, Repr

/-- R95, first definition. -/
def Supply.fresh : Supply := { state := .idle, attempts := 0, total := 0, timer := none, resetOut := false }

/-- R95: the levels of a supply's two input pins. -/
structure Inputs where
  running : Bool
  fault : Bool
  deriving DecidableEq, Repr

/-! ## Cooling (R105, R110, R119, R131) -/

/-- R105: the cause of a scan. -/
inductive ScanCause where
  | periodic
  | alarm
  deriving DecidableEq, Repr

/-- R105: the line state; a running scan keeps its cause for its completion (R108). -/
inductive Line where
  | idle
  | scanning (cause : ScanCause)
  deriving DecidableEq, Repr

/-- R105: the last scan completion and its cause. -/
structure ScanDone where
  uptime : Nat
  cause : ScanCause
  deriving DecidableEq, Repr

/-- R110: circuit conditions. -/
inductive Condition where
  | normal | warn | trip | lost
  deriving DecidableEq, Repr

/-- R131: request states. -/
inductive Request where
  | none | pending | inService
  deriving DecidableEq, Repr

/-- R110: a circuit reading. -/
structure CircuitReading where
  flow : Nat
  temp : Nat
  deriving DecidableEq, Repr

/-- R110, R131: the circuit record. -/
structure Circuit where
  reading : Option CircuitReading
  misses : Nat
  condition : Condition
  request : Request
  transient : Bool
  masked : Bool
  deriving DecidableEq, Repr

/-- R9, R110, R131, first definition. -/
def Circuit.fresh : Circuit :=
  { reading := none, misses := 0, condition := .normal, request := .none, transient := false, masked := false }

/-- R119: loop supply states. -/
inductive LoopState where
  | primary | emergency | lost
  deriving DecidableEq, Repr

/-- R128: the causes of a change of loop supply state. -/
inductive LoopCause where
  | primaryFailed | tankFailed | returnDelay | primaryRestored | tankAvailable | test
  deriving DecidableEq, Repr

/-- R119: a loop reading. -/
structure LoopReading where
  pressure : Nat
  tank : Nat
  deriving DecidableEq, Repr

/-- R119, R131: the loop record; the return delay timer keeps the length it was started with. -/
structure Loop where
  reading : Option LoopReading
  primaryFails : Nat
  tankFails : Nat
  state : LoopState
  healthySince : Option Nat
  returnTimer : Option Nat
  hold : Bool
  changed : Bool
  request : Request
  deriving DecidableEq, Repr

/-- R9, R119, R131, first definition. -/
def Loop.fresh : Loop :=
  { reading := none, primaryFails := 0, tankFails := 0, state := .primary, healthySince := none, returnTimer := none,
    hold := false, changed := false, request := .none }

/-! ## Tap scheduler (R148) -/

/-- R148: states of a tap request record; the last four are reported as the record is removed. -/
inductive TapState where
  | waiting | opened | assigned | started | complete | terminated | expired | cancelled
  deriving DecidableEq, Repr

/-- R171: termination codes. -/
inductive EndCode where
  | mass | temperature | cooling | hostEnd
  deriving DecidableEq, Repr

/-- R148: a tap request record. -/
structure Tap where
  id : Nat
  state : TapState
  grades : List GradeId
  ladles : Nat
  ladleMass : Nat
  openAt : Nat
  closeAt : Nat
  pinned : Option FurnaceId
  redirected : Bool
  assigned : Option FurnaceId
  chosen : Option GradeId
  downgraded : Bool
  done : Nat
  softStop : Bool
  staleSent : Bool
  deriving DecidableEq, Repr

/-- R155: the conditions of eligibility, in the order listed there. -/
inductive Ineligible where
  | notInService | wrongPhase | wrongGrade | otherRequest | massShort | tripHeld | supplyFailed | overheld
  | unapproved | otherPin
  deriving DecidableEq, Repr

end Sys2Proof.Machine
end

