-- ==== Sys2Proof/Machine/Messages.lean ====
section
/-! DEFINITION. The replies and notices the link unit queues, as data: what each rule says they carry. Their bytes are
Machine/Wire.lean's. -/

namespace Sys2Proof.Machine

/-! ## Notices -/

/-- R30: the heat summary. -/
structure HeatSummary where
  furnace : FurnaceId
  heatNo : Option Nat
  grade : Option GradeId
  tappedOut : Bool
  mass : Nat
  energyWh : Nat
  extensions : Nat
  overheld : Bool
  deriving DecidableEq, Repr

/-- R40: causes of a CHEMISTRY notice. -/
inductive ChemCause where
  | request | extension | charge
  deriving DecidableEq, Repr

/-- R40, R52, R56, R59, R60, R157: the events of a HEAT notice. -/
inductive HeatEvent where
  | phase (old new : Phase) (cause : PhaseCause)
  | closed (summary : HeatSummary)
  | chemistry (approved : Bool) (cause : ChemCause) (extensions : Nat) (allowance : Option Nat)
  | overheld (extensions : Nat)
  | service (service : Service)
  | freezeRisk (set : Bool) (estimate threshold : Nat)
  | tempUnknownSet (estimate : Nat) (lastDip : Option Dip)
  | tempUnknownClear (estimate : Nat)
  | dipHeld (pending : Dip) (estimate : Nat)
  | dipStale (estimate : Nat) (lastStamp : Option Nat) (request : Nat)
  deriving DecidableEq, Repr

/-- R40: a HEAT notice. -/
structure HeatNotice where
  furnace : FurnaceId
  heatNo : Option Nat
  phase : Phase
  event : HeatEvent
  deriving DecidableEq, Repr

/-- R161, R162: why a record was redirected. -/
inductive RedirectReason where
  | cooling | supply
  deriving DecidableEq, Repr

/-- R169: what set a soft stop. -/
inductive SoftStopCause where
  | expiry | dip
  deriving DecidableEq, Repr

/-- R162, R172: the events of a TAP notice. -/
inductive TapEvent where
  | assigned (ready : Bool) (estimate : Option Nat)
  | redirected (released : FurnaceId) (reason : RedirectReason)
  | released (furnace : FurnaceId) (blocking : List Blocking) (reason : Ineligible)
  | expired (released : Option FurnaceId)
  | cancelled (before : TapState) (released : Option FurnaceId)
  | started (port : Port) (mass : Nat)
  | ladle (poured counted mass : Nat)
  | softStop (cause : SoftStopCause) (estimate : Nat)
  | complete (mass : Nat)
  | terminated (code : EndCode) (failingLadle : Option Nat) (mass : Nat)
  deriving DecidableEq, Repr

/-- R162: a TAP notice. -/
structure TapNotice where
  id : Nat
  state : TapState
  pinned : Option FurnaceId
  redirected : Bool
  assigned : Option FurnaceId
  chosen : Option GradeId
  downgraded : Bool
  ladles : Nat
  done : Nat
  event : TapEvent
  deriving DecidableEq, Repr

/-- R157: a READINESS notice. -/
structure ReadinessNotice where
  furnace : FurnaceId
  ready : Bool
  blocking : List Blocking
  estimate : Option Nat
  assigned : Option Nat
  deriving DecidableEq, Repr

/-- R75, R76, R93: causes of a CLASS notice. -/
inductive ClassCause where
  | request | allowance
  deriving DecidableEq, Repr

/-- R93: the events of a POWER notice. -/
inductive PowerEvent where
  | cls (cause : ClassCause) (port : Port)
  | rushEnded
  | starved (floor need duration : Nat)
  deriving DecidableEq, Repr

/-- R93: a POWER notice. -/
structure PowerNotice where
  furnace : FurnaceId
  setClass : PowerClass
  effClass : PowerClass
  rush : Nat
  grant : Nat
  event : PowerEvent
  deriving DecidableEq, Repr

/-- R99: causes of a failed attempt. -/
inductive FailCause where
  | startTimeout | faultInput
  deriving DecidableEq, Repr

/-- R103: the events of a SUPPLY notice. -/
inductive SupplyEvent where
  | attemptFailed (cause : FailCause) (ended : SupplyState)
  | runLost
  | failed (cause : FailCause) (noRetry : Bool) (written : List FurnaceId)
  | reset (port : Port)
  deriving DecidableEq, Repr

/-- R103: a SUPPLY notice. -/
structure SupplyNotice where
  supply : SupplyId
  state : SupplyState
  attempts : Nat
  total : Nat
  event : SupplyEvent
  deriving DecidableEq, Repr

/-- R70: causes of a CEILING notice. -/
inductive CeilingCause where
  | slot | override | default
  deriving DecidableEq, Repr

/-- R70: a CEILING notice. -/
structure CeilingNotice where
  cause : CeilingCause
  ceiling : Nat
  before : Nat
  origin : Origin
  clock : Option Clock
  draw : Nat
  site : Nat
  deriving DecidableEq, Repr

/-- R128: a LOOP_SUPPLY notice. -/
structure LoopNotice where
  loop : LoopId
  old : LoopState
  new : LoopState
  cause : LoopCause
  valve : Valve
  reading : Option LoopReading
  primaryFails : Nat
  tankFails : Nat
  hold : Bool
  draw : Nat
  site : Nat
  furnaces : List FurnaceId
  deriving DecidableEq, Repr

/-- R146: causes of a WITHDRAWN notice. -/
inductive WithdrawCause where
  | condition | loop
  deriving DecidableEq, Repr

/-- R140: reply kinds of a poll that returns a source. -/
inductive PollKind where
  | request | transient
  deriving DecidableEq, Repr

/-- R146: causes of an UNMASKED notice. -/
inductive UnmaskCause where
  | request | setup
  deriving DecidableEq, Repr

/-- R146: the events of a TRIP notice. -/
inductive TripEvent where
  | raised (code : CoolingCode) (written : List FurnaceId) (withdrawn : List CircuitId)
  | withdrawn (cause : WithdrawCause)
  | polled (kind : PollKind) (port : Port)
  | cleared (port : Port) (bottom : CircuitId)
  | masked (before : Request)
  | unmasked (cause : UnmaskCause)
  deriving DecidableEq, Repr

/-- R140, R146: a source with its condition: a circuit with its condition and sensing, or a loop with its supply
state. -/
inductive SourceView where
  | circuit (c : CircuitId) (condition : Condition) (sensing : Sensing)
  | loop (l : LoopId) (state : LoopState)
  deriving DecidableEq, Repr

/-- R146: a TRIP notice. The masked flag and transient mark are a circuit's only. -/
structure TripNotice where
  source : SourceView
  event : TripEvent
  request : Request
  masked : Bool
  transient : Bool
  affected : List FurnaceId
  held : List FurnaceId
  deriving DecidableEq, Repr

/-- R182: the eight notice types, in the order of their kinds 0xE1 to 0xE8. -/
inductive NoticeBody where
  | trip (n : TripNotice)
  | loopSupply (n : LoopNotice)
  | readiness (n : ReadinessNotice)
  | heat (n : HeatNotice)
  | tap (n : TapNotice)
  | power (n : PowerNotice)
  | supply (n : SupplyNotice)
  | ceiling (n : CeilingNotice)
  deriving DecidableEq, Repr

/-- R178: a notice in a queue, with the uptime its body carries. -/
structure Notice where
  uptime : Nat
  body : NoticeBody
  deriving DecidableEq, Repr

/-! ## Replies -/

/-- R177: reply statuses. -/
inductive Status where
  | ok | adjusted | refused
  deriving DecidableEq, Repr

/-- R177: the reasons of a refusal, in the order of their codes 1 to 18. -/
inductive Reason where
  | unknownKind | badLength | badField | notPermitted | wrongState | noSuch | duplicate | full | interlock
  | conditionPresent | notReady | needUnconditional | extensionsUsed | standbySelf | standbyTaken | standbyUnfit
  | standbyDirect | badConfig
  deriving DecidableEq, Repr

/-- R53: outcomes of a taken DIP. -/
inductive DipOutcome where
  | accepted | confirmed | held | replaced | implausible
  deriving DecidableEq, Repr

/-- R94: groups of R82. -/
inductive Group where
  | isProtected | working | nothing
  deriving DecidableEq, Repr

/-- R39: what FURNACE REPORT carries. -/
structure FurnaceReport where
  furnace : FurnaceId
  record : Furnace
  applied : Nat
  supply : Option SupplyState
  deriving DecidableEq, Repr

/-- R71: the budget unit's part of POWER REPORT. -/
structure BudgetReport where
  clock : Option Clock
  ceiling : Nat
  origin : Origin
  defaultCeiling : Nat
  baseDraw : Nat
  pumps : List Nat
  draw : Nat
  site : Nat
  slots : List Slot
  deriving DecidableEq, Repr

/-- R94: what POWER REPORT carries of a configured supply. -/
structure SupplyLine where
  state : SupplyState
  attempts : Nat
  rating : Nat
  energised : Nat
  fraction : Nat
  total : Nat
  deriving DecidableEq, Repr

/-- R94: what POWER REPORT carries of a configured furnace. -/
structure FurnaceLine where
  power : Power
  group : Group
  zeroForced : Bool
  deriving DecidableEq, Repr

/-- R129: what COOLING REPORT carries of a configured loop. -/
structure LoopLine where
  cfg : LoopCfg
  record : Loop
  valve : Valve
  secondsLeft : Option Nat
  deriving DecidableEq, Repr

/-- R129: what COOLING REPORT carries of a configured circuit. -/
structure CircuitLine where
  cfg : CircuitCfg
  record : Circuit
  deriving DecidableEq, Repr

/-- R140: what TRIP POLL answers when it returns a source. -/
structure PollAnswer where
  kind : PollKind
  source : SourceView
  request : Request
  affected : List FurnaceId
  held : List FurnaceId
  deriving DecidableEq, Repr

/-- The reply data the rules name. -/
inductive ReplyData where
  | nothing
  | entry (e : TableEntry)
  | badConfig (table : TableKind) (index : Nat) (check : CheckCode)
  | partStatus (part : PartState) (uptime : Nat) (clock : Option Clock) (ceiling : Nat) (lost : Bool)
  | heat (phase : Phase) (mass : Nat)
  | charge (phase : Phase) (mass added : Nat)
  | chemistry (phase : Phase) (mass : Nat) (approved overheld : Bool) (extensions : Nat) (allowance : Option Nat)
  | closed (phase : Phase) (mass : Nat) (summary : HeatSummary)
  | sense (fault : FaultSense)
  | furnace (report : FurnaceReport)
  | dip (outcome : DipOutcome) (phase : Phase) (estimate : Option Nat) (pending : Option Dip) (count : Nat)
      (tempUnknown : Bool)
  | clock (clock : Clock)
  | slot (slot : Slot)
  | clash (slot : Fin 12)
  | ceiling (ceiling site : Nat)
  | cls (setClass effClass : PowerClass) (rush : Nat)
  | budget (report : BudgetReport)
  | power (rotation : FurnaceId) (supplies : List (Option SupplyLine)) (furnaces : List (Option FurnaceLine))
  | supply (state : SupplyState) (attempts total : Nat)
  | loopHold (state : LoopState) (hold : Bool) (healthySince : Option Nat)
  | coolingLoops (line : Line) (last : Option ScanDone) (loops : List (Option LoopLine))
  | coolingCircuits (circuits : List (Option CircuitLine))
  | bottom (c : CircuitId)
  | poll (answer : Option PollAnswer)
  | tripCleared (source : Source) (request : Request) (bottom : CircuitId) (raised : List CircuitId)
      (held : List FurnaceId)
  | mask (condition : Condition) (request : Request) (held : List FurnaceId)
  | tapTaken (state : TapState) (openAt closeAt position : Nat)
  | tapCancelled (before : TapState) (released : Option FurnaceId)
  | standby (standby : Option FurnaceId)
  | tapQueue (count : Nat) (standby : List (Option FurnaceId)) (matcher : FurnaceId) (records : List Tap)
  | tapState (state : TapState)
  | notReady (blocking : List Blocking) (furnace : FurnaceId) (estimate : Option Nat)
  | tapStarted (id : Nat) (furnace : FurnaceId) (ladles ladleMass mass : Nat)
  | ladle (counted mass done : Nat) (state : TapState) (code : Option EndCode)
  | tapEnded (done mass : Nat)
  deriving DecidableEq, Repr

/-- R177: a reply in a queue; the kind byte as received, and the port's notices-lost flag as it stood when the reply was
formed. -/
structure Reply where
  tag : Byte
  kind : Byte
  status : Status
  reason : Option Reason
  lost : Bool
  data : ReplyData
  deriving DecidableEq, Repr

end Sys2Proof.Machine
end

