-- ==== Sys2Proof/Machine/State.lean ====
section
/-! DEFINITION. The machine's state, its state after power-on, and the reasons a step can stop. -/

namespace Sys2Proof.Machine

/-- R175: the states of a port's receive framer. COLLECT keeps the length N and the bytes stored so far, oldest first. -/
inductive Framer where
  | hunt
  | length
  | collect (n : Nat) (stored : List Byte)
  deriving DecidableEq, Repr

/-- R179: which queue a frame being sent came from. -/
inductive QueueKind where
  | reply
  | notice
  deriving DecidableEq, Repr

/-- R179: a frame being sent: its queue and its bytes on the line. -/
structure Sending where
  queue : QueueKind
  bytes : List Byte
  deriving DecidableEq, Repr

/-- Chapter 12: what the link unit holds for one port; both queues oldest first. -/
structure PortUnit where
  framer : Framer
  replies : List Reply
  notices : List Notice
  lost : Bool
  sending : Option Sending
  deriving DecidableEq, Repr

/-- R175, R177, R178 at power-on; the transmitter is free. -/
def PortUnit.fresh : PortUnit := { framer := .hunt, replies := [], notices := [], lost := false, sending := none }

/-- The state of the MS-6, block by block (section 1.4), and the queue of commands that wait. -/
structure State where
  /-- ST (R11). -/
  part : PartState
  /-- ST (R2). -/
  tables : Tables
  /-- Uptime in whole seconds (section 1.7, R15). -/
  uptime : Nat
  /-- BU (R62 to R69). -/
  budget : Budget
  /-- HU, BM, PA: the furnace records with their bath and power sub-records (R19, R41, R73). -/
  furnaces : Vector Furnace 6
  /-- BM: the model interval timers, each with its length in ms (R43). -/
  modelTimers : Vector (Option Nat) 6
  /-- PA: the rotation pointer (R73, R90). -/
  rotation : FurnaceId
  /-- PA: the starvation floor that the passes use, in percent: the site table's at the last period pass (R4, R5, R84). -/
  floor : Nat
  /-- PA: the period timer with its length in ms (R73). -/
  periodTimer : Option Nat
  /-- SO (R95). -/
  supplies : Vector Supply 2
  /-- SO: the levels of the input pins (R95). -/
  inputs : Vector Inputs 2
  /-- CS: the line state (R105). -/
  line : Line
  /-- CS: the scan period timer with the length in ms it was started with (R105, R5). -/
  scanTimer : Option Nat
  /-- CS: the last scan completion (R105). -/
  lastScan : Option ScanDone
  /-- CS and TC: the circuit records (R110, R131). -/
  circuits : Vector Circuit 16
  /-- LS and TC: the loop records (R119, R131). -/
  loops : Vector Loop 4
  /-- LS: the valve outputs (R119). -/
  valves : Vector Valve 4
  /-- TC: the bottom pointer (R131, R139). -/
  bottom : CircuitId
  /-- TC: the trip-held set, in ascending order (R131, R133). -/
  held : List FurnaceId
  /-- TS: the tap queue, in queue order (R148). -/
  queue : List Tap
  /-- TS: the standby table (R154). -/
  standby : Vector (Option FurnaceId) 6
  /-- TS: the matcher pointer (R149). -/
  matcher : FurnaceId
  /-- LU: the SUP port. -/
  sup : PortUnit
  /-- LU: the DECK port. -/
  deck : PortUnit
  /-- The MODEL's own: how many free bits of log entry 7 have been used. -/
  freeCount : Nat
  /-- The commands that wait, first in, first out. -/
  pending : List Instr
  deriving DecidableEq, Repr

/-- The reasons a step would stop with a fault. The spec describes none: every event of the MS-6 leaves it running. -/
inductive Fault where
  /-- Raised by no meaning; the type is not left empty only so that it can be named. Safe. -/
  | neverRaised
  deriving DecidableEq, Repr

/-- The reasons a step would be refused by the model. -/
inductive Refusal where
  /-- Raised by an arm of exec for a command that has no meaning yet; no arm raises it. Safe. -/
  | notModelled (mnemonic : String)
  deriving DecidableEq, Repr

/-- R15 and the power-on values of every chapter: the machine right after power-on. -/
def State.reset : State :=
  { part := .configuring
    tables := Tables.reset
    uptime := 0
    budget := Budget.reset
    furnaces := Vector.replicate 6 Furnace.fresh
    modelTimers := Vector.replicate 6 (some 1000)
    rotation := 0
    floor := Tables.reset.site.starvFloor
    periodTimer := some 1000
    supplies := Vector.replicate 2 Supply.fresh
    inputs := Vector.replicate 2 { running := false, fault := false }
    line := .idle
    scanTimer := some 500
    lastScan := none
    circuits := Vector.replicate 16 Circuit.fresh
    loops := Vector.replicate 4 Loop.fresh
    valves := Vector.replicate 4 .primary
    bottom := 15
    held := []
    queue := []
    standby := Vector.replicate 6 none
    matcher := 0
    sup := PortUnit.fresh
    deck := PortUnit.fresh
    freeCount := 0
    pending := [] }

end Sys2Proof.Machine
end

