-- ==== Sys2Proof/Machine/Ops.lean ====
section
/-! DEFINITION. The named operations over the state's records and queues that every block uses: reading and writing one
entry, handing a notice to the link unit (R178), and who is affected by a circuit or loop (R116). -/

namespace Sys2Proof.Machine

/-! ## Records by number -/

def State.furnace (s : State) (f : FurnaceId) : Furnace := s.furnaces[f]
def State.supply (s : State) (u : SupplyId) : Supply := s.supplies[u]
def State.circuit (s : State) (c : CircuitId) : Circuit := s.circuits[c]
def State.loop (s : State) (l : LoopId) : Loop := s.loops[l]

def State.setFurnace (s : State) (f : FurnaceId) (r : Furnace) : State := { s with furnaces := s.furnaces.set f r }
def State.setSupply (s : State) (u : SupplyId) (r : Supply) : State := { s with supplies := s.supplies.set u r }
def State.setCircuit (s : State) (c : CircuitId) (r : Circuit) : State := { s with circuits := s.circuits.set c r }
def State.setLoop (s : State) (l : LoopId) (r : Loop) : State := { s with loops := s.loops.set l r }

/-- Change one furnace record. -/
def State.modFurnace (s : State) (f : FurnaceId) (g : Furnace → Furnace) : State := s.setFurnace f (g (s.furnace f))
/-- Change the bath sub-record of one furnace. -/
def State.modBath (s : State) (f : FurnaceId) (g : Bath → Bath) : State :=
  s.modFurnace f fun r => { r with bath := g r.bath }
/-- Change the power sub-record of one furnace. -/
def State.modPower (s : State) (f : FurnaceId) (g : Power → Power) : State :=
  s.modFurnace f fun r => { r with power := g r.power }

/-! ## Table entries; an unconfigured entry is none -/

def State.site (s : State) : Site := s.tables.site
def State.furnaceCfg (s : State) (f : FurnaceId) : Option FurnaceCfg := s.tables.furnace[f]
def State.supplyCfg (s : State) (u : SupplyId) : Option SupplyCfg := s.tables.supply[u]
def State.gradeCfg (s : State) (g : GradeId) : Option GradeCfg := s.tables.grade[g]
def State.loopCfg (s : State) (l : LoopId) : Option LoopCfg := s.tables.loop[l]
def State.circuitCfg (s : State) (c : CircuitId) : Option CircuitCfg := s.tables.circuit[c]

/-- The furnace is configured (R2). -/
def State.configured (s : State) (f : FurnaceId) : Bool := (s.furnaceCfg f).isSome

/-- The configured furnaces in ascending order. -/
def State.configuredFurnaces (s : State) : List FurnaceId := furnaceIds.filter s.configured

/-- The configured furnaces whose entry names supply u (R7), in ascending order. -/
def State.furnacesOn (s : State) (u : SupplyId) : List FurnaceId :=
  furnaceIds.filter fun f => (s.furnaceCfg f).any fun c => c.supply == u

/-- The table entry of the grade of a furnace's heat (R19). -/
def State.heatGrade (s : State) (f : FurnaceId) : Option GradeCfg := (s.furnace f).grade.bind s.gradeCfg

/-- A furnace has a heat in these phases (R19). -/
def Phase.hasHeat : Phase → Bool
  | .melting | .superheat | .holding | .tapping => true
  | .undeclared | .empty => false

/-- A furnace holds metal in these phases (R14, R142). -/
def Phase.holdsMetal : Phase → Bool
  | .empty => false
  | .undeclared | .melting | .superheat | .holding | .tapping => true

/-- The phases of a liquid bath (R41, R47). -/
def Phase.liquid : Phase → Bool
  | .superheat | .holding | .tapping => true
  | .undeclared | .empty | .melting => false

/-- The phases of a working furnace (section 5.4). -/
def Phase.working : Phase → Bool
  | .melting | .superheat => true
  | .undeclared | .empty | .holding | .tapping => false

/-! ## Ports and notices -/

def State.port (s : State) : Port → PortUnit
  | .sup => s.sup
  | .deck => s.deck

def State.setPort (s : State) (p : Port) (u : PortUnit) : State :=
  match p with
  | .sup => { s with sup := u }
  | .deck => { s with deck := u }

/-- R178: one copy of a notice at a port: it joins the tail below 24 frames, and is lost on a full queue. -/
def PortUnit.offer (u : PortUnit) (n : Notice) : PortUnit :=
  if u.notices.length < 24 then { u with notices := u.notices ++ [n] } else { u with lost := true }

/-- R178: a notice is handed to the link unit, which offers it to both ports. -/
def State.notify (s : State) (b : NoticeBody) : State :=
  let n : Notice := ⟨s.uptime, b⟩
  { s with sup := s.sup.offer n, deck := s.deck.offer n }

/-- R40: a HEAT notice of a furnace, with its heat number and phase as they stand after the event. -/
def State.heatNotice (s : State) (f : FurnaceId) (e : HeatEvent) : State :=
  s.notify (.heat ⟨f, (s.furnace f).heatNo, (s.furnace f).phase, e⟩)

/-- R162: a TAP notice of a record as it stands. -/
def State.tapNotice (s : State) (r : Tap) (e : TapEvent) : State :=
  s.notify (.tap ⟨r.id, r.state, r.pinned, r.redirected, r.assigned, r.chosen, r.downgraded, r.ladles, r.done, e⟩)

/-- R93: a POWER notice of a furnace with its power sub-record as it stands. -/
def State.powerNotice (s : State) (f : FurnaceId) (e : PowerEvent) : State :=
  let p := (s.furnace f).power
  s.notify (.power ⟨f, p.setClass, p.effClass, p.rush, p.grant, e⟩)

/-- R103: a SUPPLY notice of a supply as it stands. -/
def State.supplyNotice (s : State) (u : SupplyId) (e : SupplyEvent) : State :=
  let r := s.supply u
  s.notify (.supply ⟨u, r.state, r.attempts, r.total, e⟩)

/-- R37: a write replaces the whole fault sense record. -/
def State.writeFault (s : State) (f : FurnaceId) (e : FaultSense) : State :=
  s.modFurnace f fun r => { r with fault := e }

/-! ## Who a circuit or loop affects (R116) -/

/-- R116: a target reaches furnace f: a configured furnace that it names, or that names its supply. An unconfigured furnace
or supply is affected through nothing until its entry is configured (DESIGN CHOICE, log entry 40, for the supply). -/
def Tables.targets (t : Tables) (x : Target) (f : FurnaceId) : Bool :=
  match x, t.furnace[f] with
  | .furnace g, some _ => g == f
  | .supply u, some c => c.supply == u && (t.supply[u]).isSome
  | .nothing, some _ => false
  | _, none => false

/-- R116: circuit c, as configured, affects furnace f. -/
def State.affects (s : State) (c : CircuitId) (f : FurnaceId) : Bool :=
  (s.circuitCfg c).any fun k => s.tables.targets k.target f

/-- R116: the furnaces circuit c affects, ascending. -/
def State.affectedBy (s : State) (c : CircuitId) : List FurnaceId := furnaceIds.filter (s.affects c)

/-- The configured circuits that name loop l, ascending. -/
def State.circuitsOf (s : State) (l : LoopId) : List CircuitId :=
  circuitIds.filter fun c => (s.circuitCfg c).any fun k => k.loop == l

/-- R116: loop l is one of furnace f's loops: the loop of a circuit that affects f. -/
def State.loopAffects (s : State) (l : LoopId) (f : FurnaceId) : Bool :=
  (s.circuitsOf l).any fun c => s.affects c f

/-- The furnaces affected by circuits that name loop l, ascending. -/
def State.loopAffectedBy (s : State) (l : LoopId) : List FurnaceId := furnaceIds.filter (s.loopAffects l)

/-- R22, R24: a masked circuit affects the furnace. -/
def State.maskedOver (s : State) (f : FurnaceId) : Bool :=
  circuitIds.any fun c => (s.circuit c).masked && s.affects c f

/-! ## The tap queue (R148) -/

/-- The record with an id. -/
def State.tap (s : State) (id : Nat) : Option Tap := s.queue.find? fun r => r.id == id

/-- The record whose assigned furnace is f. -/
def State.tapOn (s : State) (f : FurnaceId) : Option Tap := s.queue.find? fun r => r.assigned == some f

/-- Change the record with an id. -/
def State.modTap (s : State) (id : Nat) (g : Tap → Tap) : State :=
  { s with queue := s.queue.map fun r => if r.id == id then g r else r }

/-- R148: a record leaves the queue. -/
def State.dropTap (s : State) (id : Nat) : State := { s with queue := s.queue.filter fun r => !(r.id == id) }

/-- Positions in rotation order from a pointer: rising, F5 followed by F0 (R82, R149). -/
def rotationFrom (p : FurnaceId) : List FurnaceId :=
  furnaceIds.filter (fun f => p ≤ f) ++ furnaceIds.filter (fun f => f < p)

/-- R82, R149: the configured furnaces in the rotation order of a pointer. -/
def State.rotationOrder (s : State) (p : FurnaceId) : List FurnaceId := (rotationFrom p).filter s.configured

end Sys2Proof.Machine
end

