-- ==== Sys2Proof/Machine/Flags.lean ====
section
/-! DEFINITION. The conditions and figures that other rules read, each as a function of the state: zero-forcing, demand,
caps and fractions (R50, R51, R79 to R81), the trip-held set (R133), eligibility (R155), the blocking reasons (R156), the
auxiliary draw and site budget (R68, R69), and the applied references (R96). -/

namespace Sys2Proof.Machine

/-! ## Supplies and applied references -/

/-- The furnace's supply is FAILED. -/
def State.supplyFailed (s : State) (f : FurnaceId) : Bool :=
  (s.furnaceCfg f).any fun c => (s.supply c.supply).state == .failed

/-- R96: the states in which a supply drives its references. -/
def SupplyState.drives : SupplyState → Bool
  | .starting | .running => true
  | .idle | .retryWait | .resetting | .failed => false

/-- R96: the applied reference of a furnace. -/
def State.applied (s : State) (f : FurnaceId) : Nat :=
  match s.furnaceCfg f with
  | some c => if (s.supply c.supply).state.drives then (s.furnace f).power.grant else 0
  | none => 0

/-- R96: the configured furnace whose entry names the channel. -/
def State.channelOwner (s : State) (u : SupplyId) (n : Fin 3) : Option FurnaceId :=
  furnaceIds.find? fun f => (s.furnaceCfg f).any fun c => c.supply == u && c.channel == n

/-- R96: what drives a reference channel: nothing, so that it is at 0, or an applied reference in kW, scaled so that the
channel's full scale is the coil rating in kW of the furnace it feeds (section 1.9, Furnace reference channels). -/
inductive ChannelDrive where
  | zero
  | scaled (applied fullScale : Nat)
  deriving DecidableEq, Repr

/-- R96: the reference channels. One that no configured furnace names, and every one of an unconfigured supply, is driven
to 0. -/
def State.channel (s : State) (u : SupplyId) (n : Fin 3) : ChannelDrive :=
  if (s.supplyCfg u).isNone then .zero
  else match s.channelOwner u n with
    | some f => .scaled (s.applied f) (((s.furnaceCfg f).map (·.coil)).getD 0)
    | none => .zero

/-- R96: a channel's level in steps of which full scale has `steps`; 0 at the drive 0 and `steps` at the coil rating. -/
def ChannelDrive.level (steps : Nat) : ChannelDrive → Nat
  | .zero => 0
  | .scaled applied fullScale => applied * steps / fullScale

/-- R95: the sum of the grants of the configured furnaces that name the supply. -/
def State.grantsOn (s : State) (u : SupplyId) : Nat :=
  ((s.furnacesOn u).map fun f => (s.furnace f).power.grant).sum

/-! ## Trip holds (R133) -/

/-- R133: the circuit holds the furnaces it affects. -/
def Circuit.holds (r : Circuit) : Bool :=
  !r.masked && (r.condition == .trip || r.condition == .lost || r.request != .none)

/-- R133: the loop holds the furnaces it affects. -/
def Loop.holds (r : Loop) : Bool := r.state == .lost || r.request != .none

/-- R133: the configured furnace is to be trip-held. -/
def State.tripHolds (s : State) (f : FurnaceId) : Bool :=
  s.configured f &&
    (circuitIds.any (fun c => s.affects c f && (s.circuit c).holds) ||
      loopIds.any fun l => (s.loopCfg l).isSome && s.loopAffects l f && (s.loop l).holds)

/-- R133: the trip-held set of the state as it stands. -/
def State.heldNow (s : State) : List FurnaceId := furnaceIds.filter s.tripHolds

/-- The furnace is in the trip-held set. -/
def State.isHeld (s : State) (f : FurnaceId) : Bool := s.held.contains f

/-! ## Power: zero-forcing, demand, caps -/

/-- R79: the furnace is zero-forced. -/
def State.zeroForced (s : State) (f : FurnaceId) : Bool :=
  let r := s.furnace f
  s.part == .configuring || r.service == .reline ||
    !(r.phase == .melting || r.phase == .superheat || r.phase == .holding) || s.isHeld f || s.supplyFailed f

/-- R51: the holding demand: λ × (setpoint − 25) ÷ (10 × η) + g × (setpoint − T), cut to 0 to the coil rating. -/
def holdingDemand (c : FurnaceCfg) (setpoint estimate : Nat) : Nat :=
  let sp : Int := setpoint
  let t : Int := (estimate / 100 : Nat)
  let d : Int := ((c.loss : Int) * (sp - 25)).tdiv (10 * (c.efficiency : Int)) + (c.gain : Int) * (sp - t)
  min d.toNat c.coil

/-- R50: the demand of a furnace. -/
def State.demandOf (s : State) (f : FurnaceId) : Nat :=
  match s.furnaceCfg f with
  | none => 0
  | some c =>
    let r := s.furnace f
    if s.zeroForced f then 0
    else match r.phase with
      | .melting | .superheat => c.coil
      | .holding => holdingDemand c (r.setpoint.getD 0) (r.bath.estimate.getD 0)
      | .undeclared | .empty | .tapping => 0

/-- R80: the energised count of a supply, on the demands as stored. -/
def State.energised (s : State) (u : SupplyId) : Nat :=
  ((s.furnacesOn u).filter fun f => !s.zeroForced f && 0 < (s.furnace f).power.demand).length

/-- R80: the channel fraction of a configured supply. -/
def State.fraction (s : State) (u : SupplyId) (k : SupplyCfg) : Nat :=
  match s.energised u with
  | 0 | 1 => 100
  | 2 => k.dual
  | _ => k.triple

/-- R81, step 1: the rating term of a cap. A furnace that names an unconfigured supply, possible in CONFIGURING only, has
a free value for it (log entry 8). -/
def State.ratingTerm (s : State) (f : FurnaceId) (c : FurnaceCfg) : Nat :=
  match s.supplyCfg c.supply with
  | some k => k.rating * s.fraction c.supply k / 100
  | none => Config.ratingTermWithoutSupply f.val

/-- R81, step 2: the limit a circuit sets on the cap of a furnace it affects while its condition is WARN. -/
def State.derate (s : State) (f : FurnaceId) (coil cap : Nat) (c : CircuitId) : Nat :=
  match s.circuitCfg c with
  | some k => if s.affects c f && (s.circuit c).condition == .warn then min cap (coil * k.derate / 100) else cap
  | none => cap

/-- R81, step 3: the limit a loop sets on the cap of a furnace it affects while it is in EMERGENCY. -/
def State.emergencyLimit (s : State) (f : FurnaceId) (coil cap : Nat) (l : LoopId) : Nat :=
  match s.loopCfg l with
  | some k =>
    if s.loopAffects l f && (s.loop l).state == .emergency then
      if (s.furnace f).phase.working then 0 else min cap (coil * k.emergencyCap / 100)
    else cap
  | none => cap

/-- R81: the cap of a furnace; 0 for an unconfigured one (R73). -/
def State.capOf (s : State) (f : FurnaceId) : Nat :=
  match s.furnaceCfg f with
  | none => 0
  | some c =>
    let c1 := min c.coil (s.ratingTerm f c)
    let c2 := circuitIds.foldl (s.derate f c.coil) c1
    loopIds.foldl (s.emergencyLimit f c.coil) c2

/-- R74: a request is ASSIGNED on the furnace. -/
def State.boosted (s : State) (f : FurnaceId) : Bool :=
  s.queue.any fun r => r.assigned == some f && r.state == .assigned

/-- R74: the weight of a class. -/
def PowerClass.weight : PowerClass → Nat
  | .defer => 1
  | .economy => 2
  | .standard => 4
  | .expedite => 6
  | .critical => 10

/-- R74: the effective class. -/
def PowerClass.boost (c : PowerClass) (boosted : Bool) : PowerClass :=
  if boosted && c.weight < PowerClass.weight .expedite then .expedite else c

/-- R82: the group of a configured furnace. -/
def State.group (s : State) (f : FurnaceId) : Group :=
  let r := s.furnace f
  if s.zeroForced f then .nothing
  else if r.phase.working then .working
  else if r.phase == .holding && 0 < r.power.need then .isProtected
  else .nothing

/-! ## Budget (R68, R69) -/

/-- R68, R71: the pump draw counted for a loop. -/
def State.pumpOf (s : State) (l : LoopId) : Nat :=
  match s.loopCfg l with
  | some k => if (s.loop l).state == .primary then k.pumpDraw else 0
  | none => 0

/-- R68: the auxiliary draw. -/
def State.drawNow (s : State) : Nat := s.site.baseDraw + (loopIds.map s.pumpOf).sum

/-! ## Tapping (R155, R156) -/

/-- R155: the first condition of eligibility that furnace f fails for record r; none where f is eligible. -/
def State.ineligible (s : State) (f : FurnaceId) (r : Tap) : Option Ineligible :=
  let x := s.furnace f
  let heel := ((s.furnaceCfg f).map (·.heel)).getD 0
  if !(s.configured f && x.service == .inService) then some .notInService
  else if !(x.phase == .superheat || x.phase == .holding) then some .wrongPhase
  else if !(x.grade.any fun g => r.grades.contains g) then some .wrongGrade
  else if s.queue.any (fun q => q.assigned == some f && q.id != r.id) then some .otherRequest
  else if x.mass < heel + r.ladles * r.ladleMass then some .massShort
  else if s.isHeld f then some .tripHeld
  else if s.supplyFailed f then some .supplyFailed
  else if x.overheld then some .overheld
  else if !x.approved then some .unapproved
  else if r.pinned.any (fun p => p != f) then some .otherPin
  else none

/-- R155: furnace f is eligible for record r. -/
def State.eligible (s : State) (f : FurnaceId) (r : Tap) : Bool := (s.ineligible f r).isNone

/-- R156: the ladle mass of the furnace's assigned request, 0 where it has none. -/
def State.assignedLadle (s : State) (f : FurnaceId) : Nat :=
  (((s.furnace f).assigned.bind s.tap).map (·.ladleMass)).getD 0

/-- The bottom of a grade's tap band in centidegrees (R28, R156, R169). -/
def GradeCfg.bandBottom (g : GradeCfg) : Nat := (g.tap - g.bandLow) * 100

/-- The top of a grade's tap band in centidegrees (R156). -/
def GradeCfg.bandTop (g : GradeCfg) : Nat := (g.tap + g.bandHigh) * 100

/-- R156: whether a blocking reason applies to a furnace, each judged on its own. -/
def State.blocks (s : State) (f : FurnaceId) : Blocking → Bool
  | .outOfService => (s.furnace f).service == .reline
  | .notHolding => (s.furnace f).phase != .holding
  | .tempLow => (s.furnace f).bath.estimate.any fun e => (s.heatGrade f).any fun g => e < g.bandBottom
  | .tempHigh => (s.furnace f).bath.estimate.any fun e => (s.heatGrade f).any fun g => g.bandTop < e
  | .dipStale =>
    match (s.furnace f).bath.lastDip with
    | none => true
    | some d => s.site.dipAge < s.uptime - d.stamp
  | .dipPending => (s.furnace f).bath.pendingDip.isSome
  | .tempUnknown => (s.furnace f).tempUnknown
  | .chemPending => !(s.furnace f).approved
  | .overheld => (s.furnace f).overheld
  | .cooling => s.isHeld f
  | .supply => s.supplyFailed f
  | .massLow =>
    (s.furnace f).mass < ((s.furnaceCfg f).map (·.heel)).getD 0 + s.assignedLadle f

/-- The reasons of R156 in the order of its table. -/
def blockingReasons : List Blocking :=
  [.outOfService, .notHolding, .tempLow, .tempHigh, .dipStale, .dipPending, .tempUnknown, .chemPending, .overheld,
   .cooling, .supply, .massLow]

/-- R156: the blocking-reason set of a furnace. -/
def State.blockingNow (s : State) (f : FurnaceId) : List Blocking := blockingReasons.filter (s.blocks f)

end Sys2Proof.Machine
end

