-- ==== Sys2Proof/Machine/Power.lean ====
section
/-! DEFINITION. Power apportionment (chapter 5) and the handover of grants to the supply output unit where a total can
only fall (R87, R95, R100). What raises a total is Machine/SupplyUnit.lean's. -/

namespace Sys2Proof.Machine

/-! ## Handing totals over -/

/-- R100: the states a supply leaves for IDLE when its total drops to 0. -/
def SupplyState.dropsToIdle : SupplyState → Bool
  | .starting | .running | .retryWait | .resetting => true
  | .idle | .failed => false

/-- R95, R100: a supply takes a new total that is not above the old one. At a drop to 0 it enters IDLE: its timer is
cancelled, its reset output de-asserted and its attempt count kept. -/
def Supply.takeTotal (r : Supply) (total : Nat) : Supply :=
  if total == 0 && 0 < r.total && r.state.dropsToIdle then
    { r with state := .idle, total := 0, timer := none, resetOut := false }
  else { r with total := total }

/-- R87, R95: the total of the grants on supply u, as it stands, is handed to the supply output unit. -/
def State.handTotal (s : State) (u : SupplyId) : State :=
  if (s.supplyCfg u).isSome then s.setSupply u ((s.supply u).takeTotal (s.grantsOn u)) else s

/-- The totals of both supplies are handed over, S0 first. -/
def State.handTotals (s : State) : State := supplyIds.foldl State.handTotal s

/-! ## Demand, cap and need (R50, R80, R81) -/

/-- R50: every furnace's demand is re-evaluated. -/
def State.refreshDemands (s : State) : State :=
  furnaceIds.foldl (fun t f => t.modPower f fun p => { p with demand := s.demandOf f }) s

/-- R81: every furnace's cap and need are recomputed from the demands as stored. -/
def State.refreshCaps (s : State) : State :=
  furnaceIds.foldl (fun t f => t.modPower f fun p => { p with cap := s.capOf f, need := min p.demand (s.capOf f) }) s

/-- R50, R80, R81: demands first, then energised counts, caps and needs. Every rule that changes an input of one of them
ends with this; where no input has changed it changes nothing. -/
def State.refreshPower (s : State) : State := s.refreshDemands.refreshCaps

/-! ## Immediate zeroing (R79) -/

/-- R79: what immediate zeroing does to the power sub-record. -/
def Power.zeroed (p : Power) : Power :=
  { p with grant := 0, starvLeft := none, starvCounter := 0, demand := 0, need := 0 }

/-- R79, R100: a furnace that becomes zero-forced is zeroed at once, and the new total is handed over. -/
def State.zeroFurnace (s : State) (f : FurnaceId) : State :=
  let t := s.modPower f Power.zeroed
  (match s.furnaceCfg f with
    | some c => t.handTotal c.supply
    | none => t).refreshPower

/-! ## The figures (R82 to R86) -/

/-- One working furnace in tier 2: what it has been given, what it still wants, and whether the water-filling has fixed
it. -/
structure Share where
  furnace : FurnaceId
  supply : SupplyId
  weight : Nat
  figure : Nat
  rem : Nat
  floor : Nat
  starving : Bool
  fixed : Bool
  deriving DecidableEq, Repr

/-- Tier 2 as it proceeds: B2, H_s of each supply, and the working furnaces in rotation order. -/
structure Pool where
  site : Nat
  room : Vector Nat 2
  shares : List Share
  deriving DecidableEq, Repr

def Pool.roomOf (p : Pool) (u : SupplyId) : Nat := p.room[u]

/-- R84 to R86: an amount is added to a furnace's figure and subtracted from its rem, from B2 and from its supply's
H_s. -/
def Pool.give (p : Pool) (i : Share) (x : Nat) (fix : Bool) : Pool :=
  { site := p.site - x
    room := p.room.set i.supply (p.roomOf i.supply - x)
    shares := p.shares.map fun j =>
      if j.furnace == i.furnace then { j with figure := j.figure + x, rem := j.rem - x, fixed := j.fixed || fix }
      else j }

/-- The rating of a supply, 0 where it is unconfigured. -/
def State.ratingOf (s : State) (u : SupplyId) : Nat := ((s.supplyCfg u).map (·.rating)).getD 0

/-- A furnace with its supply. -/
def State.withSupply (s : State) (f : FurnaceId) : Option (FurnaceId × SupplyId) :=
  (s.furnaceCfg f).map fun c => (f, c.supply)

/-- R84: the floor of a furnace: coil rating × starvation floor ÷ 100, of the floor that the passes use: a changed site
parameter applies from the next period pass (R5), also for a reduction pass before it (log entry 42). -/
def State.floorOf (s : State) (f : FurnaceId) : Nat :=
  match s.furnaceCfg f with
  | some c => c.coil * s.floor / 100
  | none => 0

/-- R83, step 1: the per-supply scaling of the protected furnaces. -/
def State.tierOnePerSupply (s : State) : List (FurnaceId × SupplyId × Nat) :=
  let prot := (furnaceIds.filter fun f => s.group f == .isProtected).filterMap s.withSupply
  prot.map fun (f, u) =>
    let need := (s.furnace f).power.need
    let total := ((prot.filter fun q => q.2 == u).map fun q => (s.furnace q.1).power.need).sum
    (f, u, if s.ratingOf u < total then need * s.ratingOf u / total else need)

/-- R83, step 2: the site scaling. -/
def State.tierOne (s : State) : List (FurnaceId × SupplyId × Nat) :=
  let per := s.tierOnePerSupply
  let total := (per.map fun q => q.2.2).sum
  per.map fun (f, u, x) => (f, u, if s.budget.site < total then x * s.budget.site / total else x)

/-- R84: where tier 2 begins. -/
def State.tierTwoStart (s : State) : Pool :=
  let one := s.tierOne
  let left (u : SupplyId) : Nat := s.ratingOf u - ((one.filter fun q => q.2.1 == u).map fun q => q.2.2).sum
  { site := s.budget.site - (one.map fun q => q.2.2).sum
    room := #v[left 0, left 1]
    shares := ((s.rotationOrder s.rotation).filter fun f => s.group f == .working).filterMap fun f =>
      (s.furnaceCfg f).map fun c =>
        let w := (s.furnace f).power
        { furnace := f, supply := c.supply, weight := w.effClass.weight, figure := 0, rem := w.need,
          floor := s.floorOf f, starving := w.starvLeft.isSome, fixed := false } }

/-- R84: one furnace with an active starvation grant is served. -/
def Pool.serveFloor (p : Pool) (i : Share) : Pool :=
  p.give i (min (min i.floor i.rem) (min p.site (p.roomOf i.supply))) false

/-- R84: starvation grants are served first, in rotation order. -/
def Pool.serveFloors (p : Pool) : Pool := (p.shares.filter (·.starving)).foldl Pool.serveFloor p

/-- R85: the set U of an iteration. -/
def Pool.contenders (p : Pool) : List Share :=
  p.shares.filter fun i => !i.fixed && 0 < i.rem && 0 < p.roomOf i.supply

/-- R85, step 1: the share p_i = B2 × w_i ÷ W. -/
def Pool.plainShare (p : Pool) (i : Share) : Nat :=
  p.site * i.weight / (p.contenders.map (·.weight)).sum

/-- R85, step 2: the supply is scaled in this iteration. -/
def Pool.scaled (p : Pool) (u : SupplyId) : Bool :=
  p.roomOf u < ((p.contenders.filter fun i => i.supply == u).map p.plainShare).sum

/-- R85, step 2: q_i. -/
def Pool.amount (p : Pool) (i : Share) : Nat :=
  if p.scaled i.supply then
    p.roomOf i.supply * i.weight / ((p.contenders.filter fun j => j.supply == i.supply).map (·.weight)).sum
  else p.plainShare i

/-- Fix each listed furnace at its amount. -/
def Pool.fixAll (p : Pool) (l : List (Share × Nat)) : Pool := l.foldl (fun q x => q.give x.1 x.2 true) p

/-- R85: the water-filling. Every iteration that does not end it fixes a furnace, so as many iterations as there are
furnaces suffice. -/
def Pool.fill : Nat → Pool → Pool
  | 0, p => p
  | n + 1, p =>
    let u := p.contenders
    if u.isEmpty || p.site == 0 then p
    else
      let full := u.filter fun i => i.rem ≤ p.amount i
      if !full.isEmpty then Pool.fill n (p.fixAll (full.map fun i => (i, i.rem)))
      else
        let tight := u.filter fun i => p.scaled i.supply
        if !tight.isEmpty then Pool.fill n (p.fixAll (tight.map fun i => (i, p.amount i)))
        else p.fixAll (u.map fun i => (i, p.plainShare i))

/-- R86: the order of a leftover round: descending weight, equal weights in rotation order. -/
def Pool.roundOrder (p : Pool) : List Share :=
  [10, 6, 4, 2, 1].flatMap fun w => p.shares.filter fun i => i.weight == w

/-- R86: one visit of a leftover round, judged on the pool as it stands. -/
def Pool.visit (p : Pool) (f : FurnaceId) : Pool :=
  match p.shares.find? fun i => i.furnace == f with
  | some i => if 0 < p.site && 0 < i.rem && 0 < p.roomOf i.supply then p.give i 1 false else p
  | none => p

/-- R86: leftover rounds, until B2 is 0 or a round gives nothing; every round that gives lowers B2. -/
def Pool.leftover : Nat → Pool → Pool
  | 0, p => p
  | n + 1, p =>
    if p.site == 0 then p
    else
      let q := (p.roundOrder.map (·.furnace)).foldl Pool.visit p
      if q.site == p.site then p else Pool.leftover n q

/-- R84 to R86: tier 2 to its end. -/
def State.tierTwo (s : State) : Pool :=
  let p := Pool.fill 6 s.tierTwoStart.serveFloors
  Pool.leftover p.site p

/-- R82 to R86: every furnace's figure. -/
def State.figures (s : State) : List (FurnaceId × Nat) :=
  (s.tierOne.map fun q => (q.1, q.2.2)) ++ (s.tierTwo.shares.map fun i => (i.furnace, i.figure))

/-- The figure of one furnace; every figure starts at 0 (R82). -/
def figureIn (l : List (FurnaceId × Nat)) (f : FurnaceId) : Nat :=
  ((l.find? fun q => q.1 == f).map (·.2)).getD 0

/-! ## The reduction pass (R91) -/

/-- R91: each grant becomes the smaller of its present value and its figure; nothing is counted. -/
def State.reductionPass (s : State) : State :=
  let l := s.figures
  (furnaceIds.foldl (fun t f => t.modPower f fun p => { p with grant := min p.grant (figureIn l f) }) s).handTotals

/-- R91: a cap of a configured furnace, or B, stands below its value before the event. -/
def State.fallenSince (now before : State) : Bool :=
  now.budget.site < before.budget.site ||
    furnaceIds.any fun f => now.configured f && (now.furnace f).power.cap < (before.furnace f).power.cap

/-- R69, R91: an event in which B or a cap fell, in RUNNING, ends with one reduction pass, run after all its changes. -/
def State.settle (now : State) (fell : Bool) : State :=
  if now.part == .running && fell then now.reductionPass else now

/-- R69, R91: the end of an event that recomputes B once at most: its fall then shows between the event's beginning and its
end. A scan completion may recompute B for several loops (`State.siteFallsAt`). DESIGN CHOICE (log entry 9): the fall of a
cap is judged between the event's beginning and its end. -/
def State.settleFrom (now before : State) : State := now.settle (now.fallenSince before)

end Sys2Proof.Machine
end

