-- ==== Sys2Proof/Machine/HeatUnit.lean ====
section
/-! DEFINITION. The heat unit's shared operations: a phase change up to its handover to the tap scheduler (R23, steps 1 to
4), the setpoint (R33), the close of a heat (R30), freeze risk (R52). -/

namespace Sys2Proof.Machine

/-- R23, step 2, R42: on entry to MELTING or EMPTY the two flags are cleared and the bath model discards its estimate, its
dips and its disagreement count. -/
def Furnace.clearForPhase (r : Furnace) (new : Phase) : Furnace :=
  if new == .melting || new == .empty then
    { r with freezeRisk := false, tempUnknown := false
             bath := { r.bath with estimate := none, pendingDip := none, lastDip := none, disagreements := 0 } }
  else r

/-- R23, steps 1 to 3: the new phase is written, the record cleared for it, and a phase that zero-forces zeroes the
furnace at once; demand and caps follow the phase (R50, R81). -/
def State.enterPhase (s : State) (f : FurnaceId) (new : Phase) : State :=
  let t := s.modFurnace f fun r => { r.clearForPhase new with phase := new }
  if new == .empty || new == .tapping then t.zeroFurnace f else t.refreshPower

/-- R23, steps 1 to 4, of a change other than a heat close: the phase and its HEAT notice PHASE. Step 5, the handover to
the tap scheduler, is `State.changePhase`. -/
def State.phaseSteps (s : State) (f : FurnaceId) (new : Phase) (cause : PhaseCause) : State :=
  let old := (s.furnace f).phase
  (s.enterPhase f new).heatNotice f (.phase old new cause)

/-- R30, step 1: the heat summary of the record as it stands. -/
def State.heatSummary (s : State) (f : FurnaceId) (tappedOut : Bool) : HeatSummary :=
  let r := s.furnace f
  { furnace := f, heatNo := r.heatNo, grade := r.grade, tappedOut := tappedOut, mass := r.mass,
    energyWh := r.energyWh, extensions := r.extensions, overheld := r.overheld }

/-- R20, R42, R73, column "Heat close", but for the phase: the set class, the rush allowance, the service state and the
fault sense record are kept. TAP_READY is left to the evaluation that the close hands to the tap scheduler, which finds
NOT_HOLDING, clears it and sends its READINESS notice (R157). -/
def Furnace.heatClosed (r : Furnace) : Furnace :=
  { r with heatNo := none, grade := none, mass := 0, approved := false, allowance := none, extensions := 0,
           overheld := false, freezeRisk := false, tempUnknown := false, energyWh := 0, setpoint := none,
           assigned := none, bath := Bath.fresh
           power := { r.power with effClass := r.power.setClass, starvCounter := 0, starvLeft := none } }

/-- R30, steps 1 to 3: the heat closes and the HEAT notice CLOSED is sent. Step 4 is the tap scheduler's. -/
def State.closeSteps (s : State) (f : FurnaceId) (tappedOut : Bool) : State :=
  let summary := s.heatSummary f tappedOut
  ((s.modFurnace f Furnace.heatClosed).enterPhase f .empty).heatNotice f (.closed summary)

/-- R33: the setpoint of a furnace with a heat follows its assigned request; one without a heat has none. Demand follows
it (R50). -/
def State.followSetpoint (s : State) (f : FurnaceId) : State :=
  (s.modFurnace f fun r =>
    { r with setpoint :=
        if r.phase.hasHeat then
          (r.grade.bind s.gradeCfg).map fun g => if r.assigned.isSome then g.tap else g.hold
        else none }).refreshPower

/-- R52: the threshold of FREEZE_RISK in centidegrees. -/
def State.freezeThreshold (s : State) (f : FurnaceId) : Nat :=
  (((s.heatGrade f).map (·.liquidus)).getD 0 + ((s.furnaceCfg f).map (·.freezeMargin)).getD 0) * 100

/-- R52: freeze risk is judged on the estimate of a liquid bath. -/
def State.judgeFreeze (s : State) (f : FurnaceId) : State :=
  let r := s.furnace f
  let th := s.freezeThreshold f
  match r.bath.estimate with
  | none => s
  | some e =>
    if !r.phase.liquid then s
    else if !r.freezeRisk && e < th then
      (s.modFurnace f fun x => { x with freezeRisk := true }).heatNotice f (.freezeRisk true e th)
    else if r.freezeRisk && th + 1000 ≤ e then
      (s.modFurnace f fun x => { x with freezeRisk := false }).heatNotice f (.freezeRisk false e th)
    else s

end Sys2Proof.Machine
end

