-- ==== Sys2Proof/Machine/TapUnit.lean ====
section
/-! DEFINITION. The tap scheduler's shared operations: readiness (R156, R157), assignment (R160), release and redirection
(R161), the matching pass (R159), the end of a started tap (R171), and taking a change of furnaces (R158, R167). -/

namespace Sys2Proof.Machine

/-! ## Readiness -/

/-- R157: the stale-dip request: an ASSIGNED request on a furnace blocked by DIP_STALE alone sends one DIP_REQUEST for the
assignment. Its furnace is HOLDING, as NOT_HOLDING is absent, so its estimate is present. -/
def State.staleDipRequest (s : State) (f : FurnaceId) : State :=
  let r := s.furnace f
  match r.assigned.bind s.tap with
  | some q =>
    if q.state == .assigned && !q.staleSent && r.blocking == [.dipStale] then
      (s.heatNotice f (.dipStale (r.bath.estimate.getD 0) (r.bath.lastDip.map (·.stamp)) q.id)).modTap q.id
        fun x => { x with staleSent := true }
    else s
  | none => s

/-- R156, R157: a configured furnace's readiness is evaluated; a change of TAP_READY sends a READINESS notice. DESIGN CHOICE
(log entry 12): where one evaluation sends both, READINESS comes before DIP_REQUEST. -/
def State.evaluate (s : State) (f : FurnaceId) : State :=
  if s.configured f then
    let was := (s.furnace f).tapReady
    let set := s.blockingNow f
    let t := s.modFurnace f fun r => { r with blocking := set, tapReady := set.isEmpty }
    let r := t.furnace f
    let t := if was == set.isEmpty then t
      else t.notify (.readiness ⟨f, set.isEmpty, set, r.bath.estimate, r.assigned⟩)
    t.staleDipRequest f
  else s

/-- R156: several furnaces are evaluated, in the order given. -/
def State.evaluateAll (s : State) (fs : List FurnaceId) : State := fs.foldl State.evaluate s

/-! ## Classes and assignments -/

/-- R74: the effective class of a furnace is recomputed. -/
def State.recomputeClass (s : State) (f : FurnaceId) : State :=
  s.modPower f fun p => { p with effClass := p.setClass.boost (s.boosted f) }

/-- R160: record id is assigned to furnace f, with the event its TAP notice carries. The TAP_HEAT change of step 5 takes
steps 1 to 4 of R23; its handover is step 6, since the changes an assignment makes start no further pass (R159). -/
def State.assign (s : State) (id : Nat) (f : FurnaceId) (downgraded : Bool) (event : State → TapEvent) : State :=
  let grade := (s.furnace f).grade
  let s1 := s.modTap id fun r =>
    { r with state := .assigned, assigned := some f, chosen := grade, downgraded := downgraded, staleSent := false }
  let s2 := (s1.modFurnace f fun r => { r with assigned := some id }).followSetpoint f
  let s3 := s2.recomputeClass f
  let s4 := match s3.tap id with
    | some r => s3.tapNotice r (event s3)
    | none => s3
  let cold := (s4.furnace f).phase == .holding &&
    (s4.furnace f).bath.estimate.any fun e => (s4.heatGrade f).any fun g => e < g.bandBottom
  let s5 := if cold then s4.phaseSteps f .superheat .tapHeat else s4
  s5.evaluate f

/-- R161, steps 1 and 2: furnace f and record id are parted; the record's state is left to the caller. -/
def State.part1and2 (s : State) (id : Nat) (f : FurnaceId) : State :=
  let s1 := (s.modFurnace f fun r => { r with assigned := none }).followSetpoint f
  let s2 := s1.modTap id fun r =>
    { r with assigned := none, chosen := none, downgraded := false, staleSent := false }
  s2.recomputeClass f

/-- R161, step 3: the standby a released record moves to, where every condition of redirection holds. -/
def State.redirectTo (s : State) (r : Tap) (f : FurnaceId) : Option FurnaceId :=
  if r.pinned.isSome && (s.isHeld f || s.supplyFailed f) then
    match s.standby[f] with
    | some x => if s.eligible x { r with pinned := some x } then some x else none
    | none => none
  else none

/-- Whether a grade is not the first of a record's list (R148, R159). -/
def Tap.downgrades (r : Tap) (g : Option GradeId) : Bool := r.grades.head? != g

/-- R161: the ASSIGNED record r is released from furnace f, and redirected or returned to OPEN. The eligibility reason and
the blocking-reason set of R162, which `released it`, are those of the furnace while r is still its assigned request (log
entry 14). -/
def State.release (s : State) (r : Tap) (f : FurnaceId) : State :=
  let why := (s.ineligible f r).getD .notInService
  let blocking := s.blockingNow f
  let t := s.part1and2 r.id f
  match t.redirectTo r f with
  | some x =>
    let reason : RedirectReason := if t.isHeld f then .cooling else .supply
    let t := t.modTap r.id fun q => { q with pinned := some x, redirected := true }
    t.assign r.id x (r.downgrades (t.furnace x).grade) fun _ => .redirected f reason
  | none =>
    let t := t.modTap r.id fun q => { q with state := .opened }
    match t.tap r.id with
    | some q => t.tapNotice q (.released f blocking why)
    | none => t

/-! ## The matching pass (R159) -/

/-- R159, step 2: furnace a is to be chosen before furnace b, which stands earlier in matcher rotation order. -/
def State.betterThan (s : State) (a b : FurnaceId) : Bool :=
  let x := s.furnace a
  let y := s.furnace b
  if x.tapReady != y.tapReady then x.tapReady
  else y.bath.estimate.getD 0 < x.bath.estimate.getD 0

/-- R159, step 2: the best of the candidates, listed in matcher rotation order. -/
def State.best (s : State) : List FurnaceId → Option FurnaceId
  | [] => none
  | f :: rest => some (rest.foldl (fun b a => if s.betterThan a b then a else b) f)

/-- R159, steps 1 and 2: the furnace a record is matched to: among the eligible furnaces of the first grade of its list
that has one. -/
def State.matchFor (s : State) (r : Tap) : Option FurnaceId :=
  r.grades.findSome? fun g =>
    s.best ((s.rotationOrder s.matcher).filter fun f => (s.furnace f).grade == some g && s.eligible f r)

/-- The position after a furnace, F5 followed by F0 (R159, step 4). -/
def nextPosition (f : FurnaceId) : FurnaceId := f + 1

/-- R159: one record of a matching pass, visited if it is OPEN. -/
def State.visitRecord (s : State) (id : Nat) : State :=
  match s.tap id with
  | some r =>
    if r.state == .opened then
      match s.matchFor r with
      | some f =>
        let t := s.assign id f (r.downgrades (s.furnace f).grade)
          fun x => .assigned (x.furnace f).tapReady (x.furnace f).bath.estimate
        { t with matcher := nextPosition f }
      | none => s
    else s
  | none => s

/-- R159: a matching pass visits the records that are OPEN at its start, once each, in queue order. -/
def State.matchingPass (s : State) : State :=
  ((s.queue.filter fun r => r.state == .opened).map (·.id)).foldl State.visitRecord s

/-! ## The end of a started tap (R171) -/

/-- R37, R171: the TAP code a termination writes into the fault sense record; HOST_END writes none. -/
def EndCode.fault : EndCode → Option TapFaultCode
  | .mass => some .mass
  | .temperature => some .temperature
  | .cooling => some .cooling
  | .hostEnd => none

/-- R171: the STARTED record r on furnace f ends, COMPLETE for no code and TERMINATED for one. Step 5 takes the phase
change under R158: f has no request left, so what remains of it is the evaluation and a matching pass. -/
def State.endTap (s : State) (r : Tap) (f : FurnaceId) (code : Option EndCode) : State :=
  let s1 := match code.bind EndCode.fault with
    | some c => s.writeFault f (.tap c r.id r.done (r.done + 1) s.uptime)
    | none => s
  let mass := (s1.furnace f).mass
  let ended : Tap := { r with state := if code.isSome then .terminated else .complete }
  let event : TapEvent := match code with
    | some c => .terminated c (if c == .hostEnd then none else some (r.done + 1)) mass
    | none => .complete mass
  let s2 := (s1.dropTap r.id).tapNotice ended event
  let s3 := if 0 < mass then
      ((s2.modFurnace f fun x => { x with assigned := none }).followSetpoint f).phaseSteps f .holding .tapEnd
    else s2.closeSteps f true
  (s3.evaluate f).matchingPass

/-! ## Taking a change (R158) -/

/-- R158, step 1, R167: a STARTED request on a trip-held furnace terminates with code COOLING. -/
def State.judgeStarted (s : State) (f : FurnaceId) : State :=
  match s.tapOn f with
  | some r => if r.state == .started && s.isHeld f then s.endTap r f (some .cooling) else s
  | none => s

/-- R158, step 2: an ASSIGNED request whose furnace is no longer eligible for it is released; the furnaces that the step
gave an assignment are collected beside the state. -/
def State.judgeAssigned (x : State × List FurnaceId) (f : FurnaceId) : State × List FurnaceId :=
  match x.1.tapOn f with
  | some r =>
    if r.state == .assigned && !x.1.eligible f r then
      let t := x.1.release r f
      (t, x.2 ++ ((t.tap r.id).bind (·.assigned)).toList)
    else x
  | none => x

/-- R158: the tap scheduler takes a change of the furnaces listed, in ascending order. -/
def State.tapChange (s : State) (fs : List FurnaceId) : State :=
  let s1 := fs.foldl State.judgeStarted s
  let (s2, given) := fs.foldl State.judgeAssigned (s1, [])
  (s2.evaluateAll (furnaceIds.filter fun f => fs.contains f || given.contains f)).matchingPass

/-- R23: a phase change, steps 1 to 5. -/
def State.changePhase (s : State) (f : FurnaceId) (new : Phase) (cause : PhaseCause) : State :=
  (s.phaseSteps f new cause).tapChange [f]

/-- R30: a heat closes, steps 1 to 4. -/
def State.closeHeat (s : State) (f : FurnaceId) (tappedOut : Bool) : State :=
  (s.closeSteps f tappedOut).tapChange [f]

/-- R169: the soft stop of a tapping furnace is judged on its estimate. -/
def State.judgeSoftStop (s : State) (f : FurnaceId) (cause : SoftStopCause) : State :=
  match s.tapOn f, (s.furnace f).bath.estimate with
  | some r, some e =>
    let bottom := ((r.chosen.bind s.gradeCfg).map GradeCfg.bandBottom).getD 0
    if r.state == .started && !r.softStop && e < bottom then
      let t := s.modTap r.id fun q => { q with softStop := true }
      t.tapNotice { r with softStop := true } (.softStop cause e)
    else s
  | _, _ => s

end Sys2Proof.Machine
end

