-- ==== Sys2Proof/Machine/SupplyUnit.lean ====
section
/-! DEFINITION. The supply output unit's start supervision (R97 to R101): entering STARTING, failed attempts, FAILED, and
a handed-over total that may start a supply. -/

namespace Sys2Proof.Machine

/-- R101: a supply enters FAILED: its furnaces are zeroed, their fault sense records written, the notice sent, and the
change handed to the tap scheduler. -/
def State.failSupply (s : State) (u : SupplyId) (cause : FailCause) : State :=
  let fs := s.furnacesOn u
  let s1 := s.setSupply u { s.supply u with state := .failed, timer := none, resetOut := false }
  let s2 := fs.foldl State.zeroFurnace s1.refreshPower
  let s3 := s2.setSupply u { s2.supply u with total := 0 }
  let s4 := fs.foldl (fun t f => t.writeFault f (.supplyFailed u t.uptime)) s3
  let noRetry := ((s.supplyCfg u).map (·.noRetry)).getD false
  (s4.supplyNotice u (.failed cause noRetry fs)).tapChange fs

/-- R99: a failed attempt raises the count and moves the supply along the ladder. -/
def State.failAttempt (s : State) (u : SupplyId) (cause : FailCause) : State :=
  let r := s.supply u
  let n := r.attempts + 1
  let noRetry := ((s.supplyCfg u).map (·.noRetry)).getD false
  if noRetry || 5 ≤ n then
    (s.setSupply u { r with attempts := n, timer := none }).failSupply u cause
  else if n == 4 then
    (s.setSupply u { r with attempts := n, state := .resetting, timer := some ⟨.resetHold, 5⟩, resetOut := true }).supplyNotice
      u (.attemptFailed cause r.state)
  else
    (s.setSupply u { r with attempts := n, state := .retryWait, timer := some ⟨.retry, 2⟩ }).supplyNotice
      u (.attemptFailed cause r.state)

/-- R98: a supply enters RUNNING: the start timer is cancelled and the stable-run timer of 60 s starts. -/
def State.enterRunning (s : State) (u : SupplyId) : State :=
  s.setSupply u { s.supply u with state := .running, timer := some ⟨.stableRun, 60⟩ }

/-- R97: every entry to STARTING starts the start timer and judges the inputs as they stand. -/
def State.enterStarting (s : State) (u : SupplyId) : State :=
  let time := ((s.supplyCfg u).map (·.startTime)).getD 0
  let t := s.setSupply u { s.supply u with state := .starting, timer := some ⟨.start, time⟩, resetOut := false }
  if s.inputs[u].fault then t.failAttempt u .faultInput
  else if s.inputs[u].running then t.enterRunning u
  else t

/-- R88, R97, R100: a period pass hands over the total of a supply, which may rise from 0 and start it, or drop to 0. -/
def State.handTotalUp (s : State) (u : SupplyId) : State :=
  if (s.supplyCfg u).isSome then
    let r := s.supply u
    let total := s.grantsOn u
    if r.state == .idle && r.total == 0 && 0 < total then
      (s.setSupply u { r with total := total }).enterStarting u
    else s.setSupply u (r.takeTotal total)
  else s

end Sys2Proof.Machine
end

