-- ==== Sys2Proof/Machine/TripUnit.lean ====
section
/-! DEFINITION. The trip controller's shared operations: raising and withdrawing requests (R134 to R138, R144) and taking a
change (R132). -/

namespace Sys2Proof.Machine

/-- One raise noted at step 1 of R132: the fault sense record it writes and the furnaces that were not trip-held. -/
structure Raise where
  source : Source
  code : CoolingCode
  written : List FurnaceId
  deriving DecidableEq, Repr

/-- A change under way at step 1 of R132: the state with request states, marks and masks changed, the raises, and the
TRIP notices in the order of the changes, all but the trip-held set they carry. -/
structure TripChange where
  st : State
  raises : List Raise
  notices : List TripNotice

/-- A change with nothing done yet. -/
def State.tripStart (s : State) : TripChange := ⟨s, [], []⟩

/-- R146: a source with its condition, and its sensing for a circuit. -/
def State.sourceView (s : State) : Source → SourceView
  | .circuit c => .circuit c (s.circuit c).condition (((s.circuitCfg c).map (·.sensing)).getD .latching)
  | .loop l => .loop l (s.loop l).state

/-- The furnaces a source affects (R116). -/
def State.affectedBySource (s : State) : Source → List FurnaceId
  | .circuit c => s.affectedBy c
  | .loop l => s.loopAffectedBy l

/-- R131: the request state of a source. -/
def State.requestOf (s : State) : Source → Request
  | .circuit c => (s.circuit c).request
  | .loop l => (s.loop l).request

/-- R146: the TRIP notice of an event, on the state just after it; the trip-held set is filled in when it is sent. -/
def State.tripNoticeOf (s : State) (src : Source) (e : TripEvent) : TripNotice :=
  let (m, t) := match src with
    | .circuit c => ((s.circuit c).masked, (s.circuit c).transient)
    | .loop _ => (false, false)
  { source := s.sourceView src, event := e, request := s.requestOf src, masked := m, transient := t,
    affected := s.affectedBySource src, held := [] }

/-- Add the notice of an event to a change. -/
def TripChange.note (x : TripChange) (src : Source) (e : TripEvent) : TripChange :=
  { x with notices := x.notices ++ [x.st.tripNoticeOf src e] }

/-- Change the record of a circuit within a change. -/
def TripChange.modCircuit (x : TripChange) (c : CircuitId) (g : Circuit → Circuit) : TripChange :=
  { x with st := x.st.setCircuit c (g (x.st.circuit c)) }

/-- The loop of the circuit is unconfigured or has request NONE (R134, R138). -/
def State.loopFree (s : State) (c : CircuitId) : Bool :=
  (s.circuitCfg c).any fun k => (s.loopCfg k.loop).isNone || (s.loop k.loop).request == .none

/-- R134, R138: the circuit may raise: unmasked, request NONE, and its loop does not suppress it. -/
def State.mayRaise (s : State) (c : CircuitId) : Bool :=
  !(s.circuit c).masked && (s.circuit c).request == .none && s.loopFree c

/-- TRIP or LOST. -/
def Condition.bad : Condition → Bool
  | .trip | .lost => true
  | .normal | .warn => false

/-- R136: the furnaces whose records a raise writes: those the source affects that are not trip-held before the
change. -/
def State.toWrite (s : State) (src : Source) : List FurnaceId := (s.affectedBySource src).filter fun f => !s.isHeld f

/-- R136: a circuit raises. -/
def TripChange.raiseCircuit (x : TripChange) (c : CircuitId) : TripChange :=
  let code : CoolingCode := if (x.st.circuit c).condition == .lost then .circuitLost else .circuitTrip
  let written := x.st.toWrite (.circuit c)
  let y := x.modCircuit c fun r => { r with request := .pending, transient := false }
  let z : TripChange := { y with raises := y.raises ++ [⟨.circuit c, code, written⟩] }
  z.note (.circuit c) (.raised code written [])

/-- R138: a circuit is re-judged. -/
def TripChange.rejudge (x : TripChange) (c : CircuitId) : TripChange :=
  if x.st.mayRaise c && (x.st.circuit c).condition.bad then x.raiseCircuit c else x

/-- R135, R145: a PENDING request is withdrawn, with a transient mark where its condition left. -/
def TripChange.withdraw (x : TripChange) (c : CircuitId) (cause : WithdrawCause) : TripChange :=
  (x.modCircuit c fun r => { r with request := .none, transient := cause == .condition || r.transient }).note
    (.circuit c) (.withdrawn cause)

/-- R134, R135: a change of a circuit's condition. -/
def TripChange.conditionChange (x : TripChange) (c : CircuitId) (old new : Condition) : TripChange :=
  let live := (x.st.circuitCfg c).any fun k => k.sensing == .live
  if !old.bad && new.bad && x.st.mayRaise c then x.raiseCircuit c
  else if live && (x.st.circuit c).request == .pending && old.bad && !new.bad then x.withdraw c .condition
  else x

/-- R137: the circuits of a loop whose requests are PENDING. -/
def State.pendingOf (s : State) (l : LoopId) : List CircuitId :=
  (s.circuitsOf l).filter fun c => (s.circuit c).request == .pending

/-- R137: a change of a loop's supply state: an entry to LOST with request NONE raises, and withdraws the PENDING requests
of the loop's circuits without marks. -/
def TripChange.loopChange (x : TripChange) (l : LoopId) (new : LoopState) : TripChange :=
  if new == .lost && (x.st.loop l).request == .none then
    let withdrawn := x.st.pendingOf l
    let written := x.st.toWrite (.loop l)
    let s1 := x.st.setLoop l { x.st.loop l with request := .pending }
    let s2 := withdrawn.foldl (fun t c => t.setCircuit c { t.circuit c with request := .none }) s1
    let y : TripChange := ⟨s2, x.raises ++ [⟨.loop l, .loopLost, written⟩], x.notices⟩
    y.note (.loop l) (.raised .loopLost written withdrawn)
  else x

/-- R143, R144: a masked circuit is unmasked and re-judged; a RESTART sends no UNMASKED notice. -/
def TripChange.unmask (x : TripChange) (c : CircuitId) (cause : Option UnmaskCause) : TripChange :=
  let y := x.modCircuit c fun r => { r with masked := false }
  let z := match cause with
    | some k => y.note (.circuit c) (.unmasked k)
    | none => y
  z.rejudge c

/-- R144: a setup request has widened masked circuits onto furnaces that hold metal: those circuits are unmasked, in
ascending order. No masked circuit affected such a furnace before, so all of them are examined (log entry 27). -/
def TripChange.setupUnmask (x : TripChange) : TripChange :=
  circuitIds.foldl (fun y c =>
    if (y.st.circuit c).masked && (y.st.affectedBy c).any (fun f => (y.st.furnace f).phase.holdsMetal) then
      y.unmask c (some .setup)
    else y) x

/-- R132, steps 2 to 6: the trip-held set is recomputed, furnaces that entered it zeroed and those that left it
re-evaluated, the fault sense records of the raises written, the notices sent, and the change handed to the tap
scheduler. `seen` is the state as the trip controller has been told of it: changes of the same scan completion that have
not been handed over yet are undone there (log entry 37). -/
def TripChange.commitSeeing (x : TripChange) (seen : State → State) : State :=
  let was := x.st.held
  let now := (seen x.st).heldNow
  let entered := now.filter fun f => !was.contains f
  let changed := furnaceIds.filter fun f => was.contains f != now.contains f
  let s1 := (entered.foldl State.zeroFurnace { x.st with held := now }).refreshPower
  let s2 := x.raises.foldl
    (fun t r => r.written.foldl (fun t f => t.writeFault f (.cooling r.code r.source t.uptime)) t) s1
  let s3 := x.notices.foldl (fun t n => t.notify (.trip { n with held := now })) s2
  if changed.isEmpty then s3 else s3.tapChange changed

/-- R132, steps 2 to 6, of a change that comes alone. -/
def TripChange.commit (x : TripChange) : State := x.commitSeeing fun s => s

/-- R109, step 3, R117, R125: a change that the cooling scan unit or the loop selector hands to the trip controller. -/
inductive SourceChange where
  | loop (l : LoopId) (old new : LoopState)
  | circuit (c : CircuitId) (old new : Condition)
  deriving DecidableEq, Repr

/-- What the trip controller does at step 1 of R132. -/
def SourceChange.take : SourceChange → TripChange → TripChange
  | .loop l _ new, x => x.loopChange l new
  | .circuit c old new, x => x.conditionChange c old new

/-- The state as it was before a change. -/
def SourceChange.undo (s : State) : SourceChange → State
  | .loop l old _ => s.setLoop l { s.loop l with state := old }
  | .circuit c old _ => s.setCircuit c { s.circuit c with condition := old }

/-- R132: the changes of one scan completion are taken one after the other, each as a change of its own. -/
def State.handChanges : List SourceChange → State → State
  | [], s => s
  | x :: rest, s => State.handChanges rest ((x.take s.tripStart).commitSeeing fun t => rest.foldl SourceChange.undo t)

end Sys2Proof.Machine
end

