-- ==== Sys2Proof/Machine/Operands.lean ====
section
/-! DEFINITION. How a request reaches its owner and is answered (R176, R177), how its operand bytes are read (R183), and
the checks that several owners share (R2, R24). -/

namespace Sys2Proof.Machine

/-! ## Reading operand bytes (R183) -/

/-- A number below n; any other byte is a field out of range. -/
def finOf (n : Nat) (b : Byte) : Option (Fin n) := if h : b.toNat < n then some ⟨b.toNat, h⟩ else none

/-- A yes/no or on/off field: 0 or 1. -/
def yesNo (b : Byte) : Option Bool := if b = 0 then some false else if b = 1 then some true else none

/-- The value lies in a range that includes both ends. -/
def within (lo hi x : Nat) : Bool := lo ≤ x && x ≤ hi

/-- A source byte: 0 to 15 for C0 to C15, 16 to 19 for L0 to L3. -/
def sourceOf (b : Byte) : Option Source :=
  if h : b.toNat < 16 then some (.circuit ⟨b.toNat, h⟩)
  else if h : b.toNat - 16 < 4 then some (.loop ⟨b.toNat - 16, h⟩)
  else none

/-! ## Judging and answering -/

/-- What a rule orders after the reply has been formed. -/
inductive After where
  | nothing
  /-- PART STATUS clears its port's notices-lost flag (R17). -/
  | clearLost
  /-- COOLING REPORT part 0 clears the changed flags of the loops it delivered (R129). -/
  | clearChanged
  /-- TAP REQUEST answers OPEN before the matching pass it starts (R150). -/
  | matching
  deriving DecidableEq, Repr

/-- What an owner block decided about a request: the state it left and the reply it ordered. -/
structure Judged where
  st : State
  status : Status
  reason : Option Reason
  data : ReplyData
  after : After

/-- A refusal changes no state. -/
def State.refuse (s : State) (r : Reason) (d : ReplyData := .nothing) : Judged := ⟨s, .refused, some r, d, .nothing⟩
/-- A request taken as it stands. -/
def State.ok (s : State) (d : ReplyData) : Judged := ⟨s, .ok, none, d, .nothing⟩
/-- A request taken, with a value clamped where `cut` holds (section 1.7). -/
def State.taken (s : State) (cut : Bool) (d : ReplyData) : Judged :=
  ⟨s, if cut then .adjusted else .ok, none, d, .nothing⟩

/-- R177: a reply is formed, with the port's notices-lost flag as it stands, and joins the tail of the reply queue. -/
def State.formReply (s : State) (h : Hdr) (kind : Byte) (status : Status) (reason : Option Reason)
    (data : ReplyData) : State :=
  let p := s.port h.port
  s.setPort h.port { p with replies := p.replies ++ [⟨h.tag, kind, status, reason, p.lost, data⟩] }

/-- R17: a port's notices-lost flag is cleared. -/
def State.clearLost (s : State) (p : Port) : State := s.setPort p { s.port p with lost := false }

/-- R129: the changed flags of the configured loops are cleared. -/
def State.clearChanged (s : State) : State :=
  loopIds.foldl (fun t l => if (t.loopCfg l).isSome then t.setLoop l { t.loop l with changed := false } else t) s

/-- What follows the reply. -/
def State.afterReply (s : State) (p : Port) : After → State
  | .nothing => s
  | .clearLost => s.clearLost p
  | .clearChanged => s.clearChanged
  | .matching => s.matchingPass.settleFrom s

/-- R177, R91: the reduction an event calls for runs, the reply is formed, and what follows it is done. -/
def Judged.finish (j : Judged) (h : Hdr) (kind : Byte) (before : State) : State :=
  ((j.st.settleFrom before).formReply h kind j.status j.reason j.data).afterReply h.port j.after

/-- R176: a request of a known kind: the reply queue, the length and the authority are checked in this order before the
owner sees it. `len` is the body length that the kind's layout gives. -/
def serve (h : Hdr) (kind : Kind) (len : Nat) (owner : State → Judged) (s : State) : State :=
  if 4 ≤ (s.port h.port).replies.length then s
  else if h.len != len then s.formReply h kind.code .refused (some .badLength) .nothing
  else if !kind.permitted h.port then s.formReply h kind.code .refused (some .notPermitted) .nothing
  else (owner s).finish h kind.code s

/-- R175: a complete frame leaves its port's framer in HUNT. -/
def State.toHunt (s : State) (p : Port) : State := s.setPort p { s.port p with framer := .hunt }

/-- The outcome of every command: a next state. -/
abbrev Result := Host.Outcome State Fault Refusal

/-- R176: a request frame that has passed its CRC on a port is handed on, and its framer is in HUNT. A frame is received
only while the port's driver is off (R175), but it may be handed on while the port sends: a reply can be formed while a
frame is being sent (R177, R179; section 12.7, steps 1, 3 and 4). -/
def receive (h : Hdr) (take : State → State) (s : State) : Result := .next (take (s.toHunt h.port))

/-- An event of the part: its effects, and the reduction they call for (R91). -/
def event (f : State → State) (s : State) : Result := .next ((f s).settleFrom s)

/-! ## Shared checks -/

/-- R24, steps 1 to 4: the part is RUNNING; the furnace index and the fields are in range; the furnace and whatever else
the request names are configured; the record is in a state in which the request is taken. DESIGN CHOICE (log entry 39): SET
CLASS, RUSH ALLOWANCE and STANDBY CLEAR, which R24 does not name, are checked in this order too. -/
def State.heatCheck (s : State) (furnace : Byte) (fields named : Bool) (takes : Furnace → Bool)
    (go : FurnaceId → FurnaceCfg → Judged) : Judged :=
  if s.part != .running then s.refuse .wrongState
  else match finOf 6 furnace with
    | none => s.refuse .badField
    | some f =>
      if !fields then s.refuse .badField
      else match s.furnaceCfg f with
        | none => s.refuse .noSuch
        | some c =>
          if !named then s.refuse .noSuch
          else if !takes (s.furnace f) then s.refuse .wrongState
          else go f c

/-- A request that only names a configured furnace (R2). -/
def State.forFurnace (s : State) (furnace : Byte) (go : FurnaceId → FurnaceCfg → Judged) : Judged :=
  match finOf 6 furnace with
  | none => s.refuse .badField
  | some f =>
    match s.furnaceCfg f with
    | none => s.refuse .noSuch
    | some c => go f c

/-- R24: the reply data of a heat request: the furnace's phase and bath mass as they stand. -/
def State.heatReply (s : State) (f : FurnaceId) : ReplyData := .heat (s.furnace f).phase (s.furnace f).mass

end Sys2Proof.Machine
end

