-- ==== Sys2Proof/Machine/Heats.lean ====
section
/-! DEFINITION. The heat and service requests of chapter 2, and SENSE and FURNACE REPORT. -/

namespace Sys2Proof.Machine

/-! ## Service (R21, R22) -/

/-- R21, R22: the service state becomes the one given, with its HEAT notice, and the tap scheduler takes the change. DESIGN
CHOICE (log entry 12): SERVICE comes before the tap scheduler's notices. -/
def State.setService (s : State) (f : FurnaceId) (x : Service) : State :=
  (((s.modFurnace f fun r => { r with service := x }).refreshPower).heatNotice f (.service x)).tapChange [f]

/-- R21. -/
def judgeServiceOut (furnace : Byte) (s : State) : Judged :=
  s.heatCheck furnace true true (fun r => r.service == .inService && r.phase == .empty) fun f _ =>
    let t := s.setService f .reline
    t.ok (t.heatReply f)

def takeServiceOut (h : Hdr) (furnace : Byte) : State → State := serve h .serviceOut 1 (judgeServiceOut furnace)

/-- SERVICE_OUT (R21). -/
def execServiceOut (h : Hdr) (furnace : Byte) (s : State) : Result := receive h (takeServiceOut h furnace) s

/-- R22. -/
def judgeServiceIn (furnace : Byte) (s : State) : Judged :=
  s.heatCheck furnace true true (fun r => r.service == .reline) fun f _ =>
    if s.maskedOver f then s.refuse .interlock
    else
      let t := s.setService f .inService
      t.ok (t.heatReply f)

def takeServiceIn (h : Hdr) (furnace : Byte) : State → State := serve h .serviceIn 1 (judgeServiceIn furnace)

/-- SERVICE_IN (R22). -/
def execServiceIn (h : Hdr) (furnace : Byte) (s : State) : Result := receive h (takeServiceIn h furnace) s

/-! ## Beginning a heat (R25, R26, R27) -/

/-- R45: mass × em × 3600 J. -/
def GradeCfg.energyFor (g : GradeCfg) (mass : Nat) : Nat := mass * g.meltEnergy * 3600

/-- R25, R26: the fields that both requests write when a heat begins. -/
def Furnace.begun (r : Furnace) (heat : Nat) (g : GradeId) (hold mass : Nat) (allowance : Option Nat) (b : Bath) :
    Furnace :=
  { r with heatNo := some heat, grade := some g, mass := mass, approved := false, allowance := allowance,
           extensions := 0, overheld := false, freezeRisk := false, tempUnknown := false, energyWh := 0,
           setpoint := some hold, bath := b }

/-- R25, R42. -/
def State.openHeat (s : State) (f : FurnaceId) (heat : Nat) (g : GradeId) (k : GradeCfg) (mass : Nat) : State :=
  (s.modFurnace f fun r => r.begun heat g k.hold mass none
    { Bath.fresh with required := some (k.energyFor mass), progress := some 0 }).changePhase f .melting .openHeat

/-- R24, R25. -/
def judgeOpenHeat (furnace : Byte) (heat : Half) (grade : Byte) (mass : Half) (s : State) : Judged :=
  let g := finOf 16 grade
  s.heatCheck furnace (within 1 65535 heat.toNat && g.isSome && within 1 20000 mass.toNat)
    ((g.bind s.gradeCfg).isSome) (fun r => r.service == .inService && r.phase == .empty) fun f c =>
    match g with
    | none => s.refuse .badField
    | some g =>
      match s.gradeCfg g with
      | none => s.refuse .noSuch
      | some k =>
        if s.maskedOver f then s.refuse .interlock
        else if c.capacity < mass.toNat then s.refuse .badField
        else
          let t := s.openHeat f heat.toNat g k mass.toNat
          t.ok (t.heatReply f)

def takeOpenHeat (h : Hdr) (furnace : Byte) (heat : Half) (grade : Byte) (mass : Half) : State → State :=
  serve h .openHeat 6 (judgeOpenHeat furnace heat grade mass)

/-- OPEN_HEAT (R25). -/
def execOpenHeat (h : Hdr) (furnace : Byte) (heat : Half) (grade : Byte) (mass : Half) (s : State) : Result :=
  receive h (takeOpenHeat h furnace heat grade mass) s

/-- R26, R42, R52. -/
def State.declareLiquid (s : State) (f : FurnaceId) (heat : Nat) (g : GradeId) (k : GradeCfg) (mass dip : Nat) : State :=
  let t := s.modFurnace f fun r => r.begun heat g k.hold mass (some (k.allowance * 60))
    { Bath.fresh with estimate := some (dip * 100), lastDip := some ⟨dip, s.uptime⟩ }
  (t.changePhase f (if k.hold ≤ dip then .holding else .superheat) .declareLiquid).judgeFreeze f

/-- R24, R26. -/
def judgeDeclareLiquid (furnace : Byte) (heat : Half) (grade : Byte) (mass dip : Half) (s : State) : Judged :=
  let g := finOf 16 grade
  s.heatCheck furnace
    (within 1 65535 heat.toNat && g.isSome && within 1 20000 mass.toNat && within 1000 1750 dip.toNat)
    ((g.bind s.gradeCfg).isSome) (fun r => r.phase == .undeclared) fun f c =>
    match g with
    | none => s.refuse .badField
    | some g =>
      match s.gradeCfg g with
      | none => s.refuse .noSuch
      | some k =>
        if s.maskedOver f then s.refuse .interlock
        else if c.capacity < mass.toNat || dip.toNat < k.liquidus then s.refuse .badField
        else
          let t := s.declareLiquid f heat.toNat g k mass.toNat dip.toNat
          t.ok (t.heatReply f)

def takeDeclareLiquid (h : Hdr) (furnace : Byte) (heat : Half) (grade : Byte) (mass dip : Half) : State → State :=
  serve h .declareLiquid 8 (judgeDeclareLiquid furnace heat grade mass dip)

/-- DECLARE_LIQUID (R26). -/
def execDeclareLiquid (h : Hdr) (furnace : Byte) (heat : Half) (grade : Byte) (mass dip : Half) (s : State) : Result :=
  receive h (takeDeclareLiquid h furnace heat grade mass dip) s

/-- R27. -/
def judgeDeclareEmpty (furnace : Byte) (s : State) : Judged :=
  s.heatCheck furnace true true (fun r => r.phase == .undeclared) fun f _ =>
    let t := s.changePhase f .empty .declareEmpty
    t.ok (t.heatReply f)

def takeDeclareEmpty (h : Hdr) (furnace : Byte) : State → State := serve h .declareEmpty 1 (judgeDeclareEmpty furnace)

/-- DECLARE_EMPTY (R27). -/
def execDeclareEmpty (h : Hdr) (furnace : Byte) (s : State) : Result := receive h (takeDeclareEmpty h furnace) s

/-! ## Closing, charging, weighing (R30, R31, R32) -/

/-- The phases in which CLOSE HEAT, CHARGE and MASS REPORT are taken. -/
def Phase.charges : Phase → Bool
  | .melting | .superheat | .holding => true
  | .undeclared | .empty | .tapping => false

/-- R24, R30. -/
def judgeCloseHeat (furnace : Byte) (heat : Half) (s : State) : Judged :=
  s.heatCheck furnace true true (fun r => r.phase.charges) fun f _ =>
    if (s.furnace f).heatNo != some heat.toNat then s.refuse .noSuch
    else
      let summary := s.heatSummary f false
      let t := s.closeHeat f false
      t.ok (.closed (t.furnace f).phase (t.furnace f).mass summary)

def takeCloseHeat (h : Hdr) (furnace : Byte) (heat : Half) : State → State :=
  serve h .closeHeat 3 (judgeCloseHeat furnace heat)

/-- CLOSE_HEAT (R30). -/
def execCloseHeat (h : Hdr) (furnace : Byte) (heat : Half) (s : State) : Result :=
  receive h (takeCloseHeat h furnace heat) s

/-- R40: the data of a CHEMISTRY notice from the record as it stands. -/
def State.chemistryNotice (s : State) (f : FurnaceId) (cause : ChemCause) : State :=
  let r := s.furnace f
  s.heatNotice f (.chemistry r.approved cause r.extensions r.allowance)

/-- R31: what a charge does to the heat whatever its phase. -/
def Furnace.charged (r : Furnace) (added : Nat) : Furnace :=
  { r with mass := r.mass + added, approved := false, overheld := false, allowance := none, extensions := 0 }

/-- R31: the heat takes the charge; a bath that was approved sends CHEMISTRY with cause CHARGE. -/
def State.chargeHeat (s : State) (f : FurnaceId) (added : Nat) (bath : Bath → Bath) : State :=
  let was := (s.furnace f).approved
  let t := s.modFurnace f fun r => { r.charged added with bath := bath r.bath }
  if was then t.chemistryNotice f .charge else t

/-- R48: the charge credit Q, from the state before the charge. -/
def chargeCredit (k : GradeCfg) (mass estimate : Nat) (jacc : Int) : Int :=
  max 0 (((mass : Int) * k.heat * ((estimate : Int) - (k.liquidus * 100 : Nat))).tdiv 100 + jacc)

/-- R47, step 6: the estimate kept between 0 and 180 000; a clamp sets J_acc to 0. -/
def clampEstimate (e j : Int) : Nat × Int :=
  if e < 0 then (0, 0) else if 180000 < e then (180000, 0) else (e.toNat, j)

/-- R49: the estimate and J_acc of a bath whose credit covers the addition. -/
def mixedBath (k : GradeCfg) (newMass : Nat) (credit energy : Int) : Nat × Int :=
  let heat : Int := (newMass * k.heat / 100 : Nat)
  clampEstimate ((k.liquidus * 100 : Nat) + (credit - energy).tdiv heat) ((credit - energy).tmod heat)

/-- R49: a bath that returns to melting by a charge. -/
def Bath.remelt (b : Bath) (required progress : Nat) : Bath :=
  { b with required := some required, progress := some progress, estimate := none, jacc := 0 }

/-- R49: a bath that stays liquid after a charge. -/
def Bath.mixed (b : Bath) (x : Nat × Int) : Bath :=
  { b with estimate := some x.1, jacc := x.2, pendingDip := none, lastDip := none, disagreements := 0 }

/-- R31, R45, R48, R49: a charge of `added` kg is taken. DESIGN CHOICE (log entry 12): CHEMISTRY comes first; FREEZE_RISK comes
last, after the notices that the tap scheduler sends for the charge, with a phase change or without one. -/
def State.charge (s : State) (f : FurnaceId) (k : GradeCfg) (added : Nat) : State :=
  let r := s.furnace f
  if r.phase == .melting then
    ((s.chargeHeat f added fun b => { b with required := some (k.energyFor (r.mass + added)) }).refreshPower).tapChange [f]
  else
    let q := chargeCredit k r.mass (r.bath.estimate.getD 0) r.bath.jacc
    let e := k.energyFor added
    if q < (e : Int) then
      (s.chargeHeat f added fun b => b.remelt e q.toNat).changePhase f .melting .charge
    else
      let t := s.chargeHeat f added fun b => b.mixed (mixedBath k (r.mass + added) q e)
      (if r.phase == .holding then t.changePhase f .superheat .charge else t.refreshPower.tapChange [f]).judgeFreeze f

/-- R24, R31. -/
def judgeCharge (furnace : Byte) (mass : Half) (s : State) : Judged :=
  s.heatCheck furnace (within 1 20000 mass.toNat) true (fun r => r.phase.charges) fun f c =>
    match s.heatGrade f with
    | none => s.refuse .wrongState
    | some k =>
      let room := c.capacity - (s.furnace f).mass
      if room == 0 then s.refuse .full
      else
        let added := min mass.toNat room
        let t := s.charge f k added
        t.taken (room < mass.toNat) (.charge (t.furnace f).phase (t.furnace f).mass added)

def takeCharge (h : Hdr) (furnace : Byte) (mass : Half) : State → State := serve h .charge 3 (judgeCharge furnace mass)

/-- CHARGE (R31). -/
def execCharge (h : Hdr) (furnace : Byte) (mass : Half) (s : State) : Result := receive h (takeCharge h furnace mass) s

/-- R32, R45: a weighed mass replaces the bath mass; in MELTING the required energy follows it and cuts the progress. -/
def State.weigh (s : State) (f : FurnaceId) (k : GradeCfg) (mass : Nat) : State :=
  let t := s.modFurnace f fun r =>
    { r with mass := mass
             bath := if r.phase == .melting then
                 { r.bath with required := some (k.energyFor mass)
                               progress := r.bath.progress.map fun p => min p (k.energyFor mass) }
               else r.bath }
  t.tapChange [f]

/-- R24, R32. -/
def judgeMassReport (furnace : Byte) (mass : Half) (s : State) : Judged :=
  s.heatCheck furnace true true (fun r => r.phase.charges) fun f c =>
    match s.heatGrade f with
    | none => s.refuse .wrongState
    | some k =>
      if mass = 0 then s.refuse .badField
      else
        let t := s.weigh f k (min mass.toNat c.capacity)
        t.taken (c.capacity < mass.toNat) (t.heatReply f)

def takeMassReport (h : Hdr) (furnace : Byte) (mass : Half) : State → State :=
  serve h .massReport 3 (judgeMassReport furnace mass)

/-- MASS_REPORT (R32). -/
def execMassReport (h : Hdr) (furnace : Byte) (mass : Half) (s : State) : Result :=
  receive h (takeMassReport h furnace mass) s

/-! ## Chemistry (R34, R35) -/

/-- R34: the reply data of CHEM APPROVE. -/
def State.chemistryReply (s : State) (f : FurnaceId) : ReplyData :=
  let r := s.furnace f
  .chemistry r.phase r.mass r.approved r.overheld r.extensions r.allowance

/-- R34, R35: chemistry approved takes a value; a change sends CHEMISTRY with cause REQUEST and is handed to the tap
scheduler, whose notices follow (DESIGN CHOICE, log entry 12). -/
def State.setApproved (s : State) (f : FurnaceId) (yes : Bool) : State :=
  if (s.furnace f).approved == yes then s
  else ((s.modFurnace f fun r => { r with approved := yes }).chemistryNotice f .request).tapChange [f]

/-- R34: an extension. DESIGN CHOICE (log entry 12): CHEMISTRY comes before the tap scheduler's notices. -/
def State.extend (s : State) (f : FurnaceId) (k : GradeCfg) : State :=
  ((s.modFurnace f fun r =>
    { r with allowance := some (k.extension * 60), extensions := r.extensions + 1, overheld := false,
             approved := true }).chemistryNotice f .extension).tapChange [f]

/-- R24, R34. -/
def judgeChemApprove (furnace : Byte) (heat : Half) (s : State) : Judged :=
  s.heatCheck furnace true true (fun r => r.phase.hasHeat) fun f _ =>
    if (s.furnace f).heatNo != some heat.toNat then s.refuse .noSuch
    else if (s.furnace f).overheld then
      if 2 ≤ (s.furnace f).extensions then s.refuse .extensionsUsed
      else match s.heatGrade f with
        | none => s.refuse .wrongState
        | some k =>
          let t := s.extend f k
          t.ok (t.chemistryReply f)
    else
      let t := s.setApproved f true
      t.ok (t.chemistryReply f)

def takeChemApprove (h : Hdr) (furnace : Byte) (heat : Half) : State → State :=
  serve h .chemApprove 3 (judgeChemApprove furnace heat)

/-- CHEM_APPROVE (R34). -/
def execChemApprove (h : Hdr) (furnace : Byte) (heat : Half) (s : State) : Result :=
  receive h (takeChemApprove h furnace heat) s

/-- R24, R35: R35 names no reply data, so the reply carries what R24 gives every heat request. -/
def judgeChemRevoke (furnace : Byte) (heat : Half) (s : State) : Judged :=
  s.heatCheck furnace true true (fun r => r.phase.hasHeat) fun f _ =>
    if (s.furnace f).heatNo != some heat.toNat then s.refuse .noSuch
    else
      let t := s.setApproved f false
      t.ok (t.heatReply f)

def takeChemRevoke (h : Hdr) (furnace : Byte) (heat : Half) : State → State :=
  serve h .chemRevoke 3 (judgeChemRevoke furnace heat)

/-- CHEM_REVOKE (R35). -/
def execChemRevoke (h : Hdr) (furnace : Byte) (heat : Half) (s : State) : Result :=
  receive h (takeChemRevoke h furnace heat) s

/-! ## Reports (R38, R39) -/

/-- R38. -/
def judgeSense (furnace : Byte) (s : State) : Judged :=
  s.forFurnace furnace fun f _ => s.ok (.sense (s.furnace f).fault)

def takeSense (h : Hdr) (furnace : Byte) : State → State := serve h .sense 1 (judgeSense furnace)

/-- SENSE (R38). -/
def execSense (h : Hdr) (furnace : Byte) (s : State) : Result := receive h (takeSense h furnace) s

/-- R39: the report of a configured furnace. -/
def State.furnaceReport (s : State) (f : FurnaceId) (c : FurnaceCfg) : FurnaceReport :=
  { furnace := f, record := s.furnace f, applied := s.applied f
    supply := if (s.supplyCfg c.supply).isSome then some (s.supply c.supply).state else none }

/-- R39. -/
def judgeFurnaceReport (furnace : Byte) (s : State) : Judged :=
  s.forFurnace furnace fun f c => s.ok (.furnace (s.furnaceReport f c))

def takeFurnaceReport (h : Hdr) (furnace : Byte) : State → State := serve h .furnaceReport 1 (judgeFurnaceReport furnace)

/-- FURNACE_REPORT (R39). -/
def execFurnaceReport (h : Hdr) (furnace : Byte) (s : State) : Result := receive h (takeFurnaceReport h furnace) s

end Sys2Proof.Machine
end

