-- ==== Sys2Proof/Machine/Bath.lean ====
section
/-! DEFINITION. The bath model (chapter 3): the model interval of a furnace and temperature dips. -/

namespace Sys2Proof.Machine

/-! ## The model interval (R43 to R47) -/

/-- R44: the delivered power of a furnace. -/
def State.delivered (s : State) (f : FurnaceId) (c : FurnaceCfg) : Nat :=
  if (s.supply c.supply).state == .running then s.applied f else 0

/-- R41: the largest figure of the energy delivered, in Wh. -/
def energyLimit : Nat := 4294967295

/-- R41, R44: the energy count grows by P × η ÷ 100 until the figure in Wh stands at its largest value. -/
def Furnace.countEnergy (r : Furnace) (c : FurnaceCfg) (power : Nat) : Furnace :=
  if energyLimit ≤ r.energyWh then r
  else
    let n := r.bath.energyCount + power * c.efficiency / 100
    { r with energyWh := min (n * 10 / 36) energyLimit, bath := { r.bath with energyCount := n } }

/-- R46, R47: P × η × 10 − λ × (t − 25) J. -/
def netEnergy (c : FurnaceCfg) (power : Nat) (t : Int) : Int :=
  (power * c.efficiency * 10 : Nat) - (c.loss : Int) * (t - 25)

/-- R46: the melting step. -/
def State.meltStep (s : State) (f : FurnaceId) (c : FurnaceCfg) (k : GradeCfg) (power : Nat) : State :=
  let b := (s.furnace f).bath
  let required := b.required.getD 0
  let progress := b.progress.getD 0
  let sum : Int := (progress : Int) + netEnergy c power k.liquidus
  if sum < (required : Int) && progress < required then
    s.modBath f fun b => { b with progress := some sum.toNat }
  else
    (s.modBath f fun b =>
      { b with required := none, progress := none, estimate := some (k.liquidus * 100)
               jacc := max 0 (sum - (required : Int)) }).changePhase f .superheat .meltEnergy

/-- R47: one liquid step on an estimate and J_acc, with S the heat capacity of the bath. -/
def liquidFigures (capacity : Nat) (estimate : Nat) (jacc net : Int) : Nat × Int :=
  let j := jacc + net
  clampEstimate ((estimate : Int) + j.tdiv capacity) (j - j.tdiv capacity * capacity)

/-- R47: the liquid step. -/
def State.liquidStep (s : State) (f : FurnaceId) (c : FurnaceCfg) (k : GradeCfg) (power : Nat) : State :=
  let r := s.furnace f
  let e := r.bath.estimate.getD 0
  let x := liquidFigures (r.mass * k.heat / 100) e r.bath.jacc (netEnergy c power (e / 100 : Nat))
  s.modBath f fun b => { b with estimate := some x.1, jacc := x.2 }

/-- R28: on reaching the setpoint an absent hold allowance is loaded. -/
def Furnace.loadAllowance (r : Furnace) (k : GradeCfg) : Furnace :=
  { r with allowance := r.allowance.or (some (k.allowance * 60)) }

/-- R28: the change that a liquid bath's expiry calls for, on the estimate after the step. -/
def State.intervalPhase (s : State) (f : FurnaceId) (k : GradeCfg) : State :=
  let r := s.furnace f
  let e := r.bath.estimate.getD 0
  if r.phase == .superheat && r.setpoint.any (fun x => x * 100 ≤ e) then
    (s.modFurnace f fun r => r.loadAllowance k).changePhase f .holding .setpoint
  else if r.phase == .holding && r.assigned.isSome && e < k.bandBottom then
    s.changePhase f .superheat .tapHeat
  else s

/-- R43, steps 1 to 5: the bath model advances a furnace that has a heat. DESIGN CHOICE (log entry 12): the TAP notice
SOFT_STOP of an expiry comes before its HEAT notice FREEZE_RISK. -/
def State.advanceBath (s : State) (f : FurnaceId) (c : FurnaceCfg) (k : GradeCfg) : State :=
  let power := s.delivered f c
  let t := s.modFurnace f fun r => r.countEnergy c power
  let u := if (t.furnace f).phase == .melting then t.meltStep f c k power
    else ((t.liquidStep f c k power).judgeSoftStop f .expiry).intervalPhase f k
  (u.judgeFreeze f).refreshPower

/-- R36: the hold allowance of a liquid bath is counted; at 0 the heat is OVERHELD. -/
def State.countAllowance (s : State) (f : FurnaceId) : State :=
  let r := s.furnace f
  match r.allowance with
  | some (n + 1) =>
    if !r.phase.liquid then s
    else if n == 0 then
      let t := s.modFurnace f fun r =>
        { r with allowance := some 0, overheld := true, approved := false, fault := .overheld s.uptime }
      (t.heatNotice f (.overheld r.extensions)).tapChange [f]
    else s.modFurnace f fun r => { r with allowance := some n }
  | some 0 => s
  | none => s

/-- R43: what an expiry of furnace f's model interval timer does, but for the timer. An allowance that the expiry has
loaded is not counted by it. -/
def State.modelInterval (s : State) (f : FurnaceId) : State :=
  match s.furnaceCfg f with
  | none => s
  | some c =>
    let t := match (if (s.furnace f).phase.hasHeat then s.heatGrade f else none) with
      | some k =>
        let t := s.advanceBath f c k
        let loaded := (s.furnace f).allowance.isNone && (t.furnace f).allowance.isSome
        if loaded then t else t.countAllowance f
      | none => s
    t.evaluate f

/-- R43: the timer expires and runs on for the next second. -/
def State.expireModel (s : State) (f : FurnaceId) : State :=
  if s.modelTimers[f].isSome then
    ({ s with modelTimers := s.modelTimers.set f (some 1000) }).modelInterval f
  else s

/-- MODEL_INTERVAL (R43). -/
def execModelInterval (f : FurnaceId) (s : State) : Result := event (fun s => s.expireModel f) s

/-! ## Dips (R53 to R60) -/

/-- R53: the reply data of a taken DIP. -/
def State.dipReply (s : State) (f : FurnaceId) (outcome : DipOutcome) : ReplyData :=
  let r := s.furnace f
  .dip outcome r.phase r.bath.estimate r.bath.pendingDip r.bath.disagreements r.tempUnknown

/-- R58: the effects of every accepted dip on the bath sub-record. -/
def Bath.acceptDip (b : Bath) (temp stamp : Nat) : Bath :=
  { b with estimate := some (temp * 100), jacc := 0, lastDip := some ⟨temp, stamp⟩, pendingDip := none,
           disagreements := 0 }

/-- R60: TEMP_UNKNOWN is cleared with its notice, where it was set. -/
def State.clearUnknown (s : State) (f : FurnaceId) : State :=
  if (s.furnace f).tempUnknown then
    (s.modFurnace f fun r => { r with tempUnknown := false }).heatNotice f
      (.tempUnknownClear ((s.furnace f).bath.estimate.getD 0))
  else s

/-- R58: what follows the new values: freeze risk, demand, the soft stop of a tap, and readiness. -/
def State.afterDip (s : State) (f : FurnaceId) : State :=
  let t := (s.judgeFreeze f).refreshPower
  (if (t.furnace f).phase == .tapping then t.judgeSoftStop f .dip else t).evaluate f

/-- R58: a dip is accepted in a liquid phase; gate 3 of R55 also clears TEMP_UNKNOWN. DESIGN CHOICE (log
entry 12): the TEMP_UNKNOWN notice of the clearing comes before a FREEZE_RISK notice. -/
def State.acceptDip (s : State) (f : FurnaceId) (temp : Nat) (unconditional : Bool) : State :=
  let t := s.modBath f fun b => b.acceptDip temp s.uptime
  (if unconditional then t.clearUnknown f else t).afterDip f

/-- R59: the third disagreement. -/
def State.tempUnknown (s : State) (f : FurnaceId) : State :=
  let t := s.modFurnace f fun r =>
    { r with tempUnknown := true, fault := .tempUnknown s.uptime, bath := { r.bath with pendingDip := none } }
  let b := (t.furnace f).bath
  t.heatNotice f (.tempUnknownSet (b.estimate.getD 0) b.lastDip)

/-- R55, R56, R57: one more disagreement; below 3 the notice given is sent, at 3 the effects of R59 follow. DESIGN CHOICE
(log entry 38): they follow at every rise of the count to 3, also where TEMP_UNKNOWN is still set from before a CHARGE.
DESIGN CHOICE (log entry 12): DIP_REQUEST with cause HELD comes before the READINESS notice of the same DIP. -/
def State.disagree (s : State) (f : FurnaceId) (pend : Option Dip) : State :=
  let n := (s.furnace f).bath.disagreements
  let t := s.modBath f fun b => { b with disagreements := if 3 ≤ n then n else n + 1, pendingDip := pend.or b.pendingDip }
  let u :=
    if n == 2 then t.tempUnknown f
    else match pend with
      | some d => if n < 2 then t.heatNotice f (.dipHeld d ((t.furnace f).bath.estimate.getD 0)) else t
      | none => t
  u.evaluate f

/-- The difference of two figures without sign (R53). -/
def apart (x y : Nat) : Nat := (x - y) + (y - x)

/-- R54: a dip at or above the liquidus ends the melt. -/
def State.meltDip (s : State) (f : FurnaceId) (temp : Nat) : State :=
  let accept (t : State) := t.modBath f fun b => { b.acceptDip temp s.uptime with required := none, progress := none }
  ((accept s).changePhase f .superheat .meltDip).afterDip f

/-- R54: a DIP in MELTING. -/
def judgeMeltDip (s : State) (f : FurnaceId) (k : GradeCfg) (temp : Nat) : Judged :=
  if temp < k.liquidus then s.refuse .wrongState
  else if 1750 < temp then
    let t := s.evaluate f
    t.ok (t.dipReply f .implausible)
  else
    let t := s.meltDip f temp
    t.ok (t.dipReply f .accepted)

/-- R55 to R57: a DIP in a liquid phase. -/
def judgeLiquidDip (s : State) (f : FurnaceId) (temp : Nat) (unconditional : Bool) : Judged :=
  let r := s.furnace f
  let close := apart (temp * 100) (r.bath.estimate.getD 0) ≤ s.site.dipTolerance * 100
  let taken (t : State) (o : DipOutcome) : Judged := t.ok (t.dipReply f o)
  if r.tempUnknown && !unconditional then s.refuse .needUnconditional
  else if !within 1000 1750 temp then taken (s.disagree f none) .implausible
  else if unconditional then taken (s.acceptDip f temp true) .accepted
  else match r.bath.pendingDip with
    | none =>
      if close then taken (s.acceptDip f temp false) .accepted
      else taken (s.disagree f (some ⟨temp, s.uptime⟩)) .held
    | some d =>
      if apart temp d.temp ≤ s.site.dipTolerance then taken (s.acceptDip f temp false) .confirmed
      else if close then taken (s.acceptDip f temp false) .accepted
      else taken (s.disagree f (some ⟨temp, s.uptime⟩)) .replaced

/-- R24, R53. -/
def judgeDip (furnace : Byte) (temp : Half) (unconditional : Byte) (s : State) : Judged :=
  let yes := yesNo unconditional
  s.heatCheck furnace (temp.toNat ≤ 2000 && yes.isSome) true (fun r => r.phase.hasHeat) fun f _ =>
    if (s.furnace f).phase == .melting then
      match s.heatGrade f with
      | none => s.refuse .wrongState
      | some k => judgeMeltDip s f k temp.toNat
    else judgeLiquidDip s f temp.toNat (yes.getD false)

def takeDip (h : Hdr) (furnace : Byte) (temp : Half) (unconditional : Byte) : State → State :=
  serve h .dip 4 (judgeDip furnace temp unconditional)

/-- DIP (R53). -/
def execDip (h : Hdr) (furnace : Byte) (temp : Half) (unconditional : Byte) (s : State) : Result :=
  receive h (takeDip h furnace temp unconditional) s

end Sys2Proof.Machine
end

