-- ==== Sys2Proof/Machine/PowerReq.lean ====
section
/-! DEFINITION. The power apportioner's requests, its period pass and POWER REPORT (R75 to R77, R88 to R90, R94). -/

namespace Sys2Proof.Machine

/-! ## Classes (R75, R76) -/

/-- R74: the class a class byte names, coded in the order of the five classes. -/
def classOf (b : Byte) : Option PowerClass :=
  [PowerClass.defer, .economy, .standard, .expedite, .critical][b.toNat]?

/-- R75, R76: the reply data of both requests. -/
def State.classReply (s : State) (f : FurnaceId) : ReplyData :=
  let p := (s.furnace f).power
  .cls p.setClass p.effClass p.rush

/-- R75, R76: the set class is written and the effective class recomputed; a change of the set class sends CLASS. -/
def State.writeClass (s : State) (f : FurnaceId) (c : PowerClass) (cause : ClassCause) (port : Port) : State :=
  let was := (s.furnace f).power.setClass
  let t := (s.modPower f fun p => { p with setClass := c }).recomputeClass f
  if was == c then t else t.powerNotice f (.cls cause port)

/-- R75: the class that a SET CLASS writes. -/
def classWritten (asked : PowerClass) (port : Port) (rush : Nat) : PowerClass :=
  if asked == .critical && (port == .deck || rush == 0) then .expedite else asked

/-- R75. DESIGN CHOICE (log entry 39): the refusals that R75 names stand in the order WRONG_STATE, BAD_FIELD, NO_SUCH. -/
def judgeSetClass (port : Port) (furnace cls : Byte) (s : State) : Judged :=
  let c := classOf cls
  s.heatCheck furnace c.isSome true (fun _ => true) fun f _ =>
    let asked := c.getD .standard
    let w := classWritten asked port (s.furnace f).power.rush
    let t := s.writeClass f w .request port
    t.taken (w != asked) (t.classReply f)

def takeSetClass (h : Hdr) (furnace cls : Byte) : State → State := serve h .setClass 2 (judgeSetClass h.port furnace cls)

/-- SET_CLASS (R75). -/
def execSetClass (h : Hdr) (furnace cls : Byte) (s : State) : Result := receive h (takeSetClass h furnace cls) s

/-- R76. DESIGN CHOICE (log entry 39): the refusals that R76 names stand in the order WRONG_STATE, BAD_FIELD, NO_SUCH. -/
def judgeRushAllowance (port : Port) (furnace : Byte) (seconds : Half) (s : State) : Judged :=
  s.heatCheck furnace (within 0 3600 seconds.toNat) true (fun _ => true) fun f _ =>
    let t := s.modPower f fun p => { p with rush := seconds.toNat }
    let u := if seconds = 0 && (s.furnace f).power.setClass == .critical then t.writeClass f .standard .allowance port
      else t
    u.ok (u.classReply f)

def takeRushAllowance (h : Hdr) (furnace : Byte) (seconds : Half) : State → State :=
  serve h .rushAllowance 3 (judgeRushAllowance h.port furnace seconds)

/-- RUSH_ALLOWANCE (R76). -/
def execRushAllowance (h : Hdr) (furnace : Byte) (seconds : Half) (s : State) : Result :=
  receive h (takeRushAllowance h furnace seconds) s

/-! ## The period pass (R88) -/

/-- R88, step 2: every grant becomes its figure, and the totals are handed over, S0 first (log entry 10). -/
def State.replaceGrants (s : State) : State :=
  let l := s.figures
  let t := furnaceIds.foldl (fun t f => t.modPower f fun p => { p with grant := figureIn l f }) s
  supplyIds.foldl State.handTotalUp t

/-- R89: what the grant just set does to a furnace's counter and starvation grant; the flag says whether a starvation
grant starts. -/
def starve (site : Site) (working : Bool) (budget floor : Nat) (p : Power) : Power × Bool :=
  if !working then ({ p with starvCounter := 0, starvLeft := none }, false)
  else match p.starvLeft with
    | some n => ({ p with starvLeft := if n ≤ 1 then none else some (n - 1), starvCounter := 0 }, false)
    | none =>
      if budget == 0 then (p, false)
      else if p.grant < min floor p.need then
        if site.starvLimit ≤ p.starvCounter + 1 then
          ({ p with starvCounter := 0, starvLeft := some site.starvDuration }, true)
        else ({ p with starvCounter := p.starvCounter + 1 }, false)
      else ({ p with starvCounter := 0 }, false)

/-- R89: the furnace as step 3 judges it, with the power sub-record it leaves. -/
def State.starveOf (s : State) (f : FurnaceId) : Power × Bool :=
  starve s.site (s.group f == .working) s.budget.site (s.floorOf f) (s.furnace f).power

/-- R89: the furnaces whose starvation grants start in this pass, ascending. -/
def State.starved (s : State) : List FurnaceId := s.configuredFurnaces.filter fun f => (s.starveOf f).2

/-- R88, step 3: starvation is counted. -/
def State.countStarvation (s : State) : State :=
  s.configuredFurnaces.foldl (fun t f => t.modPower f fun _ => (s.starveOf f).1) s

/-- R77: the furnace spends one second of its rush allowance. -/
def State.spends (s : State) (f : FurnaceId) : Bool :=
  let p := (s.furnace f).power
  p.setClass == .critical && 0 < p.grant

/-- R77: the furnaces whose rush allowance this pass counts to 0, ascending. -/
def State.rushEnded (s : State) : List FurnaceId :=
  s.configuredFurnaces.filter fun f => s.spends f && (s.furnace f).power.rush ≤ 1

/-- R77: one furnace of step 4. -/
def State.countRushOf (s : State) (f : FurnaceId) : State :=
  if s.spends f then
    let t := s.modPower f fun p => { p with rush := p.rush - 1 }
    if (t.furnace f).power.rush == 0 then (t.modPower f fun p => { p with setClass := .standard }).recomputeClass f else t
  else s

/-- R88, step 4: rush allowances are counted. -/
def State.countRush (s : State) : State := s.configuredFurnaces.foldl State.countRushOf s

/-- R90: the rotation pointer moves to the next configured position. -/
def State.advanceRotation (s : State) : State :=
  match (s.rotationOrder (nextPosition s.rotation)).head? with
  | some f => { s with rotation := f }
  | none => s

/-- R93: the POWER notices of one furnace in a period pass, STARVED before RUSH_ENDED. -/
def State.passNotices (starved ended : List FurnaceId) (s : State) (f : FurnaceId) : State :=
  let t := if starved.contains f then
      s.powerNotice f (.starved (s.floorOf f) (s.furnace f).power.need s.site.starvDuration)
    else s
  if ended.contains f then t.powerNotice f .rushEnded else t

/-- R5: the starvation floor of the site table applies from here on. -/
def State.takeFloor (s : State) : State := { s with floor := s.site.starvFloor }

/-- R88: the period pass, steps 1 to 6, with the starvation floor that the site table now has (R5). -/
def State.periodPass (s : State) : State :=
  let s2 := s.takeFloor.replaceGrants
  let starved := s2.starved
  let s3 := s2.countStarvation
  let ended := s3.rushEnded
  furnaceIds.foldl (State.passNotices starved ended) s3.countRush.advanceRotation

/-- R73, R88: the period timer expires and runs on; in RUNNING a pass runs. -/
def State.expirePeriod (s : State) : State :=
  if s.periodTimer.isSome then
    let t : State := { s with periodTimer := some 1000 }
    if s.part == .running then t.periodPass else t
  else s

/-- PERIOD_PASS (R88). -/
def execPeriodPass (s : State) : Result := event State.expirePeriod s

/-! ## POWER REPORT (R71, R94, R181) -/

/-- R71. -/
def State.budgetReport (s : State) : BudgetReport :=
  let b := s.budget
  { clock := b.clock, ceiling := b.ceiling, origin := b.origin, defaultCeiling := s.site.defaultCeiling,
    baseDraw := s.site.baseDraw, pumps := loopIds.map s.pumpOf, draw := b.draw, site := b.site,
    slots := b.slots.toList }

/-- R94: one supply. -/
def State.supplyLine (s : State) (u : SupplyId) : Option SupplyLine :=
  (s.supplyCfg u).map fun k =>
    { state := (s.supply u).state, attempts := (s.supply u).attempts, rating := k.rating, energised := s.energised u,
      fraction := s.fraction u k, total := s.grantsOn u }

/-- R94: one furnace. -/
def State.furnaceLine (s : State) (f : FurnaceId) : Option FurnaceLine :=
  if s.configured f then some { power := (s.furnace f).power, group := s.group f, zeroForced := s.zeroForced f } else none

/-- R94, R181. -/
def judgePowerReport (part : Byte) (s : State) : Judged :=
  if part = 0 then s.ok (.budget s.budgetReport)
  else if part = 1 then s.ok (.power s.rotation (supplyIds.map s.supplyLine) (furnaceIds.map s.furnaceLine))
  else s.refuse .badField

def takePowerReport (h : Hdr) (part : Byte) : State → State := serve h .powerReport 1 (judgePowerReport part)

/-- POWER_REPORT (R94). -/
def execPowerReport (h : Hdr) (part : Byte) (s : State) : Result := receive h (takePowerReport h part) s

end Sys2Proof.Machine
end

