-- ==== Sys2Proof/Machine/Budget.lean ====
section
/-! DEFINITION. The budget unit (chapter 4): the shop clock, the ceiling schedule, the ceiling, A and B. -/

namespace Sys2Proof.Machine

/-! ## A, B and the ceiling (R66 to R70) -/

/-- R68, R69: A and then B are recomputed. The fall of B that this may be is settled at the end of the event (R69). -/
def State.recomputeBudget (s : State) : State :=
  { s with budget := { s.budget with draw := s.drawNow, site := s.budget.ceiling - s.drawNow } }

/-- R70: a CEILING notice, from the budget as it stands. -/
def State.ceilingNotice (s : State) (cause : CeilingCause) (before : Nat) : State :=
  let b := s.budget
  s.notify (.ceiling ⟨cause, b.ceiling, before, b.origin, b.clock, b.draw, b.site⟩)

/-- R66: the ceiling and its origin are set, B is recomputed and the CEILING notice sent. -/
def State.setCeiling (s : State) (ceiling : Nat) (origin : Origin) (cause : CeilingCause) : State :=
  let t : State := { s with budget := { s.budget with ceiling := ceiling, origin := origin } }
  t.recomputeBudget.ceilingNotice cause s.budget.ceiling

/-! ## The clock (R62, R63) and slot matches (R65) -/

/-- R62: the weekday after a midnight boundary. -/
def nextWeekday (d : Nat) : Nat := if d == 6 then 0 else d + 1

/-- R62: one second of the clock; the flag says whether it is a minute boundary. -/
def Clock.advance (c : Clock) : Clock × Bool :=
  if c.second < 59 then ({ c with second := c.second + 1 }, false)
  else if c.minute < 1439 then ({ c with minute := c.minute + 1, second := 0 }, true)
  else ({ weekday := nextWeekday c.weekday, minute := 0, second := 0 }, true)

/-- The slot numbers in ascending order. -/
def slotIds : List (Fin 12) := [0, 1, 2, 3, 4, 5, 6, 7, 8, 9, 10, 11]

/-- R65: the slot begins at this minute of this weekday. -/
def Slot.begins (x : Slot) (c : Clock) : Bool := x.enabled && x.start == c.minute && x.days.getLsbD c.weekday

/-- R65: the slot match at a minute boundary. -/
def State.matchSlot (s : State) (c : Clock) : State :=
  match slotIds.find? fun n => s.budget.slots[n].begins c with
  | some n => s.setCeiling s.budget.slots[n].ceiling (.schedule n) .slot
  | none => s

/-- R62: one step of uptime, and of a set clock. -/
def State.uptimeStep (s : State) : State :=
  let t : State := { s with uptime := s.uptime + 1 }
  match s.budget.clock with
  | none => t
  | some c =>
    let (d, boundary) := c.advance
    let u : State := { t with budget := { t.budget with clock := some d } }
    if boundary then u.matchSlot d else u

/-- UPTIME_STEP (R62). -/
def execUptimeStep (s : State) : Result := event State.uptimeStep s

/-- R63. -/
def judgeClockSet (weekday : Byte) (minute : Half) (second : Byte) (s : State) : Judged :=
  if within 0 6 weekday.toNat && within 0 1439 minute.toNat && within 0 59 second.toNat then
    let c : Clock := ⟨weekday.toNat, minute.toNat, second.toNat⟩
    ({ s with budget := { s.budget with clock := some c } }).ok (.clock c)
  else s.refuse .badField

def takeClockSet (h : Hdr) (weekday : Byte) (minute : Half) (second : Byte) : State → State :=
  serve h .clockSet 4 (judgeClockSet weekday minute second)

/-- CLOCK_SET (R63). -/
def execClockSet (h : Hdr) (weekday : Byte) (minute : Half) (second : Byte) (s : State) : Result :=
  receive h (takeClockSet h weekday minute second) s

/-! ## The schedule (R64) -/

/-- R64, check 3: the other slot clashes with the new contents. -/
def Slot.clashes (x y : Slot) : Bool := y.enabled && y.start == x.start && !(x.days &&& y.days == 0)

/-- R64, check 3: the lowest-numbered slot other than n that clashes with x. -/
def State.clashOf (s : State) (n : Fin 12) (x : Slot) : Option (Fin 12) :=
  slotIds.find? fun m => m != n && x.clashes s.budget.slots[m]

/-- R64. -/
def judgeScheduleSet (slot enabled days : Byte) (start ceiling : Half) (s : State) : Judged :=
  match finOf 12 slot, yesNo enabled with
  | some n, some yes =>
    if within 0 1439 start.toNat && within 0 30000 ceiling.toNat && days.toNat < 128 then
      let x : Slot := ⟨yes, days.setWidth 7, start.toNat, ceiling.toNat⟩
      if yes && days = 0 then s.refuse .badField
      else match (if yes then s.clashOf n x else none) with
        | some m => s.refuse .duplicate (.clash m)
        | none => ({ s with budget := { s.budget with slots := s.budget.slots.set n x } }).ok (.slot x)
    else s.refuse .badField
  | _, _ => s.refuse .badField

def takeScheduleSet (h : Hdr) (slot enabled days : Byte) (start ceiling : Half) : State → State :=
  serve h .scheduleSet 7 (judgeScheduleSet slot enabled days start ceiling)

/-- SCHEDULE_SET (R64). -/
def execScheduleSet (h : Hdr) (slot enabled days : Byte) (start ceiling : Half) (s : State) : Result :=
  receive h (takeScheduleSet h slot enabled days start ceiling) s

/-! ## CEILING OVERRIDE (R67) -/

/-- R67. -/
def judgeCeilingOverride (ceiling : Half) (s : State) : Judged :=
  let t := s.setCeiling (min ceiling.toNat 30000) .override .override
  t.taken (30000 < ceiling.toNat) (.ceiling t.budget.ceiling t.budget.site)

def takeCeilingOverride (h : Hdr) (ceiling : Half) : State → State :=
  serve h .ceilingOverride 2 (judgeCeilingOverride ceiling)

/-- CEILING_OVERRIDE (R67). -/
def execCeilingOverride (h : Hdr) (ceiling : Half) (s : State) : Result := receive h (takeCeilingOverride h ceiling) s

end Sys2Proof.Machine
end

