-- ==== Sys2Proof/Machine/Cooling.lean ====
section
/-! DEFINITION. The cooling sensor line, circuit conditions and loop supply selection (chapters 7 and 8). -/

namespace Sys2Proof.Machine

/-! ## The line (R105 to R107) -/

/-- R106: an expiry of the scan period timer, which runs on with the site's present scan period. -/
def State.expireScan (s : State) : State :=
  if s.scanTimer.isSome then
    let t : State := { s with scanTimer := some s.site.scanPeriod }
    if s.line == .idle then { t with line := .scanning .periodic } else t
  else s

/-- SCAN_PERIOD_EXPIRY (R106). -/
def execScanPeriodExpiry (s : State) : Result := event State.expireScan s

/-- STATION_START (R107). -/
def execStationStart (s : State) : Result :=
  event (fun s => if s.site.alarmStarts && s.line == .idle then { s with line := .scanning .alarm } else s) s

/-! ## Circuit conditions (R111 to R115) -/

/-- R108: a slot is present when its station answers, its check field agrees and both values are in range. -/
def present (first second : Nat) : Option StationAnswer → Option (Nat × Nat)
  | some a => if a.checkAgrees && a.first ≤ first && a.second ≤ second then some (a.first, a.second) else none
  | none => none

/-- R112: the trip level test. -/
def CircuitCfg.tripLevel (k : CircuitCfg) (r : CircuitReading) : Bool := r.flow < k.flowTrip || k.tempTrip < r.temp
/-- R112: the warn level test. -/
def CircuitCfg.warnLevel (k : CircuitCfg) (r : CircuitReading) : Bool := r.flow < k.flowWarn || k.tempWarn < r.temp
/-- R112: the trip clear test; the temperature limit may lie below 0, and no reading then passes. -/
def CircuitCfg.tripClear (k : CircuitCfg) (r : CircuitReading) : Bool :=
  k.flowTrip + k.flowHyst ≤ r.flow && r.temp + k.tempHyst ≤ k.tempTrip
/-- R112: the warn clear test. -/
def CircuitCfg.warnClear (k : CircuitCfg) (r : CircuitReading) : Bool :=
  k.flowWarn + k.flowHyst ≤ r.flow && r.temp + k.tempHyst ≤ k.tempWarn

/-- R113, R114, R115: the condition after a present reading. -/
def CircuitCfg.judge (k : CircuitCfg) (r : CircuitReading) : Condition → Condition
  | .normal => if k.tripLevel r then .trip else if k.warnLevel r then .warn else .normal
  | .warn => if k.tripLevel r then .trip else if k.warnClear r then .normal else .warn
  | .trip => if k.tripClear r then (if k.warnClear r then .normal else .warn) else .trip
  | .lost => if k.tripClear r then (if k.warnClear r then .normal else .warn) else .trip

/-- R111: a circuit takes its slot. -/
def Circuit.takeSlot (x : Circuit) (k : CircuitCfg) (a : Option StationAnswer) : Circuit :=
  match present 1000 120 a with
  | some (flow, temp) =>
    { x with reading := some ⟨flow, temp⟩, misses := 0, condition := k.judge ⟨flow, temp⟩ x.condition }
  | none =>
    if x.misses == 0 then { x with misses := 1 }
    else if x.misses == 1 then { x with misses := 2, condition := .lost }
    else x

/-! ## Loop supply states (R120 to R125) -/

/-- R120: a failure count after one reading. -/
def failCount (n : Nat) (bad : Bool) : Nat := if bad then (if 2 ≤ n then n else n + 1) else 0

/-- R120: the readings and counts take the slot. -/
def Loop.takeSlot (x : Loop) (k : LoopCfg) (a : Option StationAnswer) : Loop :=
  match present 1000 100 a with
  | some (pressure, tank) =>
    { x with reading := some ⟨pressure, tank⟩, primaryFails := failCount x.primaryFails (pressure < k.minPressure),
             tankFails := failCount x.tankFails (tank < k.minTank) }
  | none => { x with primaryFails := failCount x.primaryFails true, tankFails := failCount x.tankFails true }

/-- R120: primary failed. -/
def Loop.primaryFailed (x : Loop) : Bool := x.primaryFails == 2
/-- R120: primary healthy. -/
def Loop.primaryHealthy (x : Loop) : Bool := x.primaryFails == 0 && x.reading.isSome
/-- R120: tank failed. -/
def Loop.tankFailed (x : Loop) : Bool := x.tankFails == 2
/-- R120: tank available. -/
def Loop.tankAvailable (x : Loop) : Bool := x.tankFails == 0 && x.reading.isSome

/-- R121, R122, R124: the change of supply state that a slot makes, with its cause. -/
def Loop.judge (x : Loop) : Option (LoopState × LoopCause) :=
  match x.state with
  | .primary =>
    if x.primaryFailed then some (if x.tankAvailable then .emergency else .lost, .primaryFailed) else none
  | .emergency => if x.tankFailed then some (if x.primaryHealthy then .primary else .lost, .tankFailed) else none
  | .lost =>
    if x.primaryHealthy then some (.primary, .primaryRestored)
    else if x.tankAvailable then some (.emergency, .tankAvailable)
    else none

/-- R122, cases 3 to 5: what a slot does to the return delay of a loop that stays EMERGENCY. -/
def Loop.timeReturn (x : Loop) (k : LoopCfg) (uptime : Nat) : Loop :=
  if x.state != .emergency then x
  else if !x.primaryHealthy then { x with healthySince := none, returnTimer := none }
  else if !x.hold && x.healthySince.isNone then
    { x with healthySince := some uptime, returnTimer := some k.returnDelay }
  else x

/-- R125: the valve position of a supply state. -/
def LoopCfg.valveFor (k : LoopCfg) : LoopState → Valve
  | .primary => .primary
  | .emergency => .emergency
  | .lost => k.lostValve

/-- R119: a valve output is driven. -/
def State.driveValve (s : State) (l : LoopId) (v : Valve) : State := { s with valves := s.valves.set l v }

/-- R125, steps 1 to 4: a loop changes supply state. -/
def State.changeLoop (s : State) (l : LoopId) (k : LoopCfg) (new : LoopState) (cause : LoopCause) : State :=
  let old := (s.loop l).state
  let t := ((s.setLoop l { s.loop l with state := new, healthySince := none, returnTimer := none, changed := true }).driveValve
    l (k.valveFor new)).recomputeBudget
  let r := t.loop l
  t.notify (.loopSupply ⟨l, old, new, cause, k.valveFor new, r.reading, r.primaryFails, r.tankFails, r.hold,
    t.budget.draw, t.budget.site, t.loopAffectedBy l⟩)

/-- R125, all steps but the reduction pass: a change that comes alone, at a return delay expiry or SUPPLY TEST. -/
def State.loopMove (s : State) (l : LoopId) (k : LoopCfg) (new : LoopState) (cause : LoopCause) : State :=
  let old := (s.loop l).state
  (State.handChanges [.loop l old new] (s.changeLoop l k new cause)).refreshPower

/-! ## The scan completion (R109) -/

/-- R109, step 1: one loop slot, and the change it hands on. -/
def State.takeLoop (x : State × List SourceChange) (l : LoopId) (a : Option StationAnswer) :
    State × List SourceChange :=
  let (s, changes) := x
  match s.loopCfg l with
  | none => x
  | some k =>
    let r := (s.loop l).takeSlot k a
    match r.judge with
    | some (new, cause) => ((s.setLoop l r).changeLoop l k new cause, changes ++ [.loop l r.state new])
    | none => (s.setLoop l (r.timeReturn k s.uptime), changes)

/-- R109, step 2: one circuit slot, and the change it hands on. -/
def State.takeCircuit (x : State × List SourceChange) (c : CircuitId) (a : Option StationAnswer) :
    State × List SourceChange :=
  let (s, changes) := x
  match s.circuitCfg c with
  | none => x
  | some k =>
    let old := (s.circuit c).condition
    let r := (s.circuit c).takeSlot k a
    (s.setCircuit c r, if r.condition == old then changes else changes ++ [.circuit c old r.condition])

/-- R109, step 1: the slots of these loops are taken in order. -/
def State.takeLoops (s : State) (slots : Slots) (ls : List LoopId) : State × List SourceChange :=
  ls.foldl (fun x l => State.takeLoop x l slots.loops[l]) (s, [])

/-- R69: B falls at the recomputation that loop l's change makes, the loops before it having been taken. -/
def State.siteFallsAt (s : State) (slots : Slots) (l : LoopId) : Bool :=
  (s.takeLoops slots (loopIds.take (l.val + 1))).1.budget.site <
    (s.takeLoops slots (loopIds.take l.val)).1.budget.site

/-- R108, R109: the stop frame ends a scan; a line that is IDLE has none to end. -/
def State.completeScan (s : State) (slots : Slots) : State :=
  match s.line with
  | .idle => s
  | .scanning cause =>
    let t : State := { s with line := .idle, lastScan := some ⟨s.uptime, cause⟩ }
    let x := t.takeLoops slots loopIds
    let y := circuitIds.foldl (fun y c => State.takeCircuit y c slots.circuits[c]) x
    (State.handChanges y.2 y.1).refreshPower

/-- R69, R91: B or a cap fell in a scan completion: B at any of its recomputations, a later rise notwithstanding. -/
def State.fellInScan (s : State) (slots : Slots) : Bool :=
  (s.completeScan slots).fallenSince s || (s.line != .idle && loopIds.any (s.siteFallsAt slots))

/-- SCAN_COMPLETION (R109). -/
def execScanCompletion (slots : Slots) (s : State) : Result :=
  .next ((s.completeScan slots).settle (s.fellInScan slots))

/-! ## Return delay, hold and test (R123, R126, R127) -/

/-- R123. -/
def State.expireReturn (s : State) (l : LoopId) : State :=
  match s.loopCfg l with
  | some k =>
    if (s.loop l).state == .emergency && (s.loop l).returnTimer.isSome then s.loopMove l k .primary .returnDelay else s
  | none => s

/-- RETURN_DELAY_EXPIRY (R123). -/
def execReturnDelayExpiry (l : LoopId) (s : State) : Result := event (fun s => s.expireReturn l) s

/-- A request that names a configured loop (R126, R127). DESIGN CHOICE (log entry 39): a field out of range is refused before
an unconfigured loop. -/
def State.forLoop (s : State) (loop : Byte) (fields : Bool) (go : LoopId → LoopCfg → Judged) : Judged :=
  match finOf 4 loop with
  | none => s.refuse .badField
  | some l =>
    if !fields then s.refuse .badField
    else match s.loopCfg l with
      | none => s.refuse .noSuch
      | some k => go l k

/-- R126: the hold flag is set or cleared, with what that does to the return delay. -/
def Loop.setHold (x : Loop) (k : LoopCfg) (uptime : Nat) (on : Bool) : Loop :=
  let y := { x with hold := on }
  if x.state != .emergency then y
  else if on then { y with healthySince := none, returnTimer := none }
  else if x.primaryHealthy then { y with healthySince := some uptime, returnTimer := some k.returnDelay }
  else y

/-- R126. -/
def judgeSupplyHold (loop on : Byte) (s : State) : Judged :=
  let yes := yesNo on
  s.forLoop loop yes.isSome fun l k =>
    let r := (s.loop l).setHold k s.uptime (yes.getD false)
    (s.setLoop l r).ok (.loopHold r.state r.hold r.healthySince)

def takeSupplyHold (h : Hdr) (loop on : Byte) : State → State := serve h .supplyHold 2 (judgeSupplyHold loop on)

/-- SUPPLY_HOLD (R126). -/
def execSupplyHold (h : Hdr) (loop on : Byte) (s : State) : Result := receive h (takeSupplyHold h loop on) s

/-- R127. -/
def judgeSupplyTest (loop : Byte) (s : State) : Judged :=
  s.forLoop loop true fun l k =>
    if (s.loop l).state == .primary && (s.loop l).tankAvailable then
      ((s.setLoop l { s.loop l with hold := true }).loopMove l k .emergency .test).ok .nothing
    else s.refuse .wrongState

def takeSupplyTest (h : Hdr) (loop : Byte) : State → State := serve h .supplyTest 1 (judgeSupplyTest loop)

/-- SUPPLY_TEST (R127). -/
def execSupplyTest (h : Hdr) (loop : Byte) (s : State) : Result := receive h (takeSupplyTest h loop) s

/-! ## COOLING REPORT (R129, R181) -/

/-- R129: the whole seconds left on a return delay timer, truncated. Whether the second that has begun counts depends on
time below the second, a free bit (log entry 7). -/
def State.secondsLeft (s : State) (l : LoopId) : Option Nat :=
  match (s.loop l).returnTimer, (s.loop l).healthySince with
  | some d, some t => some (d - (s.uptime - t) - if Config.laterInSecond s.freeCount l.val then 1 else 0)
  | _, _ => none

/-- R129: one loop. -/
def State.loopLine (s : State) (l : LoopId) : Option LoopLine :=
  (s.loopCfg l).map fun k => { cfg := k, record := s.loop l, valve := s.valves[l], secondsLeft := s.secondsLeft l }

/-- R129: one circuit. -/
def State.circuitLine (s : State) (c : CircuitId) : Option CircuitLine :=
  (s.circuitCfg c).map fun k => { cfg := k, record := s.circuit c }

/-- R129, R181. Part 0 uses one free bit for each loop and is followed by the clearing of the changed flags. -/
def judgeCoolingReport (part : Byte) (s : State) : Judged :=
  if part = 0 then
    let t : State := { s with freeCount := s.freeCount + 1 }
    ⟨t, .ok, none, .coolingLoops s.line s.lastScan (loopIds.map s.loopLine), .clearChanged⟩
  else if part = 1 then s.ok (.coolingCircuits ((circuitIds.take 8).map s.circuitLine))
  else if part = 2 then s.ok (.coolingCircuits ((circuitIds.drop 8).map s.circuitLine))
  else s.refuse .badField

def takeCoolingReport (h : Hdr) (part : Byte) : State → State := serve h .coolingReport 1 (judgeCoolingReport part)

/-- COOLING_REPORT (R129). -/
def execCoolingReport (h : Hdr) (part : Byte) (s : State) : Result := receive h (takeCoolingReport h part) s

end Sys2Proof.Machine
end

