-- ==== Sys2Proof/Machine/Setup.lean ====
section
/-! DEFINITION. The shop tables (chapter 1): the setup requests, COMMIT, RESTART, power-on, PART STATUS and TABLE
REPORT. -/

namespace Sys2Proof.Machine

/-! ## Consistency (R10) -/

/-- The first of a list of checks that fails. -/
def firstFailing (l : List (Bool × CheckCode)) : Option CheckCode := (l.find? fun q => !q.1).map (·.2)

/-- R10, check 2: a lower-numbered configured furnace names the same supply and channel. -/
def Tables.channelTaken (t : Tables) (f : FurnaceId) (c : FurnaceCfg) : Bool :=
  furnaceIds.any fun g => g < f && (t.furnace[g]).any fun d => d.supply == c.supply && d.channel == c.channel

/-- R10, checks 1 and 2. -/
def Tables.checkFurnace (t : Tables) (f : FurnaceId) : Option CheckCode :=
  (t.furnace[f]).bind fun c =>
    firstFailing [((t.supply[c.supply]).isSome, .noSupply), (!t.channelTaken f c, .channelTaken)]

/-- R10, check 3. -/
def Tables.checkGrade (t : Tables) (g : GradeId) : Option CheckCode :=
  (t.grade[g]).bind fun k =>
    firstFailing [(k.liquidus < k.hold && k.hold ≤ k.tap && k.tap ≤ 1700, .gradeOrder)]

/-- R10, check 5: the circuit's target is configured. -/
def Tables.targetConfigured (t : Tables) : Target → Bool
  | .furnace f => (t.furnace[f]).isSome
  | .supply u => (t.supply[u]).isSome
  | .nothing => true

/-- R10, checks 4 to 7. -/
def Tables.checkCircuit (t : Tables) (c : CircuitId) : Option CheckCode :=
  (t.circuit[c]).bind fun k =>
    firstFailing [((t.loop[k.loop]).isSome, .noLoop), (t.targetConfigured k.target, .noTarget),
      (k.flowTrip < k.flowWarn, .flowOrder), (k.tempWarn < k.tempTrip, .tempOrder)]

/-- R10: the first failure in the order of the table, with its table and index. -/
def Tables.firstFailure (t : Tables) : Option (TableKind × Nat × CheckCode) :=
  (furnaceIds.findSome? fun f => (t.checkFurnace f).map fun e => (TableKind.furnace, f.val, e)).or
    ((gradeIds.findSome? fun g => (t.checkGrade g).map fun e => (TableKind.grade, g.val, e)).or
      (circuitIds.findSome? fun c => (t.checkCircuit c).map fun e => (TableKind.circuit, c.val, e)))

/-! ## The order of checks (R3) -/

/-- R3, steps 2 and 3, once step 1 has passed: idleness in RUNNING, a request that stands over a removed entry in either
part state, and the consistency of the tables as they would stand. -/
def State.setupChecked (s : State) (idle removable : Bool) (next : Tables) (go : Judged) : Judged :=
  if !removable || (s.part == .running && !idle) then s.refuse .wrongState
  else match (if s.part == .running then next.firstFailure else none) with
    | some (table, index, check) => s.refuse .badConfig (.badConfig table index check)
    | none => go

/-- R2: what a setup request asks for, once its fields have passed step 1 of R3. -/
inductive Action (α : Type) where
  | define (entry : α)
  | remove

/-- The entry an action leaves. -/
def Action.entry {α : Type} : Action α → Option α
  | .define e => some e
  | .remove => none

/-- R3, step 1, R183: the index, the action and the fields; none where one of them is out of range. -/
def setupAction {α β : Type} (n : Nat) (index action : Byte) (body : Option β) (read : β → Option α) :
    Option (Fin n × Action α) :=
  (finOf n index).bind fun i =>
    if action = 0 then (body.bind read).map fun e => (i, .define e)
    else if action = 1 then some (i, .remove)
    else none

/-- R183: the body length of a setup request: the DEFINE length for the action DEFINE, 2 otherwise. -/
def setupLen (action : Byte) (defineLen : Nat) : Nat := if action = 0 then defineLen else 2

/-! ## SITE SETUP (R4, R5) -/

/-- R4: a parameter number and value, written into the table; none where either is out of range. -/
def Site.write (e : Site) (p : Byte × Half) : Option Site :=
  let v := p.2.toNat
  match p.1.toNat with
  | 0 => if within 250 2000 v then some { e with scanPeriod := v } else none
  | 1 => if v ≤ 1 then some { e with alarmStarts := v == 1 } else none
  | 2 => if within 0 50 v then some { e with starvFloor := v } else none
  | 3 => if within 10 600 v then some { e with starvLimit := v } else none
  | 4 => if within 5 120 v then some { e with starvDuration := v } else none
  | 5 => if within 0 30000 v then some { e with defaultCeiling := v } else none
  | 6 => if within 0 2000 v then some { e with baseDraw := v } else none
  | 7 => if within 5 60 v then some { e with dipTolerance := v } else none
  | 8 => if within 60 1800 v then some { e with dipAge := v } else none
  | 9 => if v ≤ 1 then some { e with autoRotate := v == 1 } else none
  | _ => none

/-- R4: every parameter the request carries is written. -/
def Site.writeAll (e : Site) : List (Byte × Half) → Option Site
  | [] => some e
  | p :: rest => (e.write p).bind fun d => d.writeAll rest

/-- R183: no parameter is carried twice. -/
def noRepeats : List Byte → Bool
  | [] => true
  | p :: rest => !rest.contains p && noRepeats rest

/-- R5: the parameters are stored, the ceiling follows a new default while its origin is DEFAULT, and A and B are
recomputed once. -/
def State.storeSite (s : State) (e : Site) (carriesCeiling : Bool) : State :=
  let t : State := { s with tables := { s.tables with site := e } }
  if carriesCeiling && s.budget.origin == .default then t.setCeiling e.defaultCeiling .default .default
  else t.recomputeBudget

/-- R3, R4. -/
def judgeSiteSetup (action count : Byte) (params : List (Byte × Half)) (s : State) : Judged :=
  if action = 0 && within 1 10 count.toNat && params.length == count.toNat && noRepeats (params.map (·.1)) then
    match s.site.writeAll params with
    | some e =>
      let t := s.storeSite e (params.any fun p => p.1 = 5)
      t.ok (.entry (.site t.site))
    | none => s.refuse .badField
  else s.refuse .badField

def takeSiteSetup (h : Hdr) (action count : Byte) (params : List (Byte × Half)) : State → State :=
  serve h .siteSetup (2 + 3 * count.toNat) (judgeSiteSetup action count params)

/-- SITE_SETUP (R4). -/
def execSiteSetup (h : Hdr) (action count : Byte) (params : List (Byte × Half)) (s : State) : Result :=
  receive h (takeSiteSetup h action count params) s

/-! ## SUPPLY SETUP (R6, R13) -/

/-- R6, R183: a field of SUPPLY SETUP that may be left out. -/
def supplyField (mask : Byte) (bit : Nat) (v lo hi default : Nat) : Option Nat :=
  if mask.getLsbD bit then (if within lo hi v then some v else none) else some default

/-- R6: the fields of a DEFINE; rating and no-retry option must be present. -/
def SupplyBody.read (b : SupplyBody) : Option SupplyCfg :=
  if b.mask.getLsbD 0 && b.mask.getLsbD 4 && within 500 12000 b.rating.toNat then
    match supplyField b.mask 1 b.dual.toNat 50 100 80, supplyField b.mask 2 b.triple.toNat 34 100 60,
      supplyField b.mask 3 b.startTime.toNat 1 10 3, yesNo b.noRetry with
    | some d, some t, some st, some n => some ⟨b.rating.toNat, d, t, st, n⟩
    | _, _, _, _ => none
  else none

/-- R13: the supply is idle. -/
def State.supplyIdle (s : State) (u : SupplyId) : Bool :=
  (s.supplyCfg u).isNone ||
    ((s.supply u).state == .idle && (s.furnacesOn u).all fun f => (s.furnace f).power.grant == 0)

/-- R6, R95: the entry is stored; a first definition and a removal leave the values of a new supply. -/
def State.storeSupply (s : State) (u : SupplyId) (e : Option SupplyCfg) : State :=
  let t : State := { s with tables := { s.tables with supply := s.tables.supply.set u e } }
  (if (s.supplyCfg u).isSome && e.isSome then t else t.setSupply u Supply.fresh).refreshPower

/-- R6, R116, R133, R144: the supply entry changes. A first definition and a removal change the furnaces that circuits
targeting the supply affect: masked circuits that now reach metal are unmasked and the trip-held set is recomputed, as at
the setup requests that R133 and R144 name (DEDUCED, log entry 40). -/
def State.setSupplyEntry (s : State) (u : SupplyId) (e : Option SupplyCfg) : State :=
  let t := s.storeSupply u e
  if (s.supplyCfg u).isSome && e.isSome then t else t.tripStart.setupUnmask.commit

/-- R3, R6, R13. -/
def judgeSupplySetup (supply action : Byte) (body : Option SupplyBody) (s : State) : Judged :=
  match setupAction 2 supply action body SupplyBody.read with
  | none => s.refuse .badField
  | some (u, a) =>
    s.setupChecked (s.supplyIdle u) true { s.tables with supply := s.tables.supply.set u a.entry }
      ((s.setSupplyEntry u a.entry).ok (.entry (.supply a.entry)))

def takeSupplySetup (h : Hdr) (supply action : Byte) (body : Option SupplyBody) : State → State :=
  serve h .supplySetup (setupLen action 9) (judgeSupplySetup supply action body)

/-- SUPPLY_SETUP (R6). -/
def execSupplySetup (h : Hdr) (supply action : Byte) (body : Option SupplyBody) (s : State) : Result :=
  receive h (takeSupplySetup h supply action body) s

/-! ## FURNACE SETUP (R7, R13) -/

/-- R7: the fields of a DEFINE. -/
def FurnaceBody.read (b : FurnaceBody) : Option FurnaceCfg :=
  match finOf 2 b.supply, finOf 3 b.channel with
  | some u, some ch =>
    if within 500 20000 b.capacity.toNat && within 100 10000 b.coil.toNat && within 40 95 b.efficiency.toNat &&
        within 0 500 b.loss.toNat && within 0 50 b.gain.toNat && within 0 b.capacity.toNat b.heel.toNat &&
        within 10 100 b.freezeMargin.toNat then
      some ⟨b.capacity.toNat, b.coil.toNat, b.efficiency.toNat, b.loss.toNat, b.gain.toNat, b.heel.toNat,
        b.freezeMargin.toNat, u, ch⟩
    else none
  | _, _ => none

/-- R13: the furnace is idle for a DEFINE, and for a REMOVE no request is pinned to it. -/
def State.furnaceIdle (s : State) (f : FurnaceId) (removing : Bool) : Bool :=
  ((s.furnaceCfg f).isNone || (s.furnace f).phase == .empty || (s.furnace f).phase == .undeclared) &&
    !(removing && s.queue.any fun r => r.pinned == some f)

/-- R7: every standby pairing that names a furnace is deleted. -/
def State.unpair (s : State) (f : FurnaceId) : State :=
  { s with standby := (s.standby.map fun x => if x == some f then none else x).set f none }

/-- R7, R73, R95: the entry is stored; a first definition and a removal leave the record new, a removal deletes the
standby pairings, and the totals are handed over. -/
def State.storeFurnace (s : State) (f : FurnaceId) (e : Option FurnaceCfg) : State :=
  let t : State := { s with tables := { s.tables with furnace := s.tables.furnace.set f e } }
  let u := if (s.furnaceCfg f).isSome && e.isSome then t else t.setFurnace f Furnace.fresh
  (if e.isSome then u else u.unpair f).handTotals.refreshPower

/-- R7, R133, R144, R156: the furnace entry changes, masked circuits that now reach metal are unmasked, the trip-held set
is recomputed, and the furnace's readiness is evaluated. -/
def State.setFurnaceEntry (s : State) (f : FurnaceId) (e : Option FurnaceCfg) : State :=
  (((s.storeFurnace f e).tripStart.setupUnmask).commit).evaluate f

/-- R3, R7, R13. -/
def judgeFurnaceSetup (furnace action : Byte) (body : Option FurnaceBody) (s : State) : Judged :=
  match setupAction 6 furnace action body FurnaceBody.read with
  | none => s.refuse .badField
  | some (f, a) =>
    s.setupChecked (s.furnaceIdle f a.entry.isNone) true { s.tables with furnace := s.tables.furnace.set f a.entry }
      ((s.setFurnaceEntry f a.entry).ok (.entry (.furnace a.entry)))

def takeFurnaceSetup (h : Hdr) (furnace action : Byte) (body : Option FurnaceBody) : State → State :=
  serve h .furnaceSetup (setupLen action 15) (judgeFurnaceSetup furnace action body)

/-- FURNACE_SETUP (R7). -/
def execFurnaceSetup (h : Hdr) (furnace action : Byte) (body : Option FurnaceBody) (s : State) : Result :=
  receive h (takeFurnaceSetup h furnace action body) s

/-! ## GRADE SETUP (R8, R13) -/

/-- R8: the fields of a DEFINE. -/
def GradeBody.read (b : GradeBody) : Option GradeCfg :=
  if within 1100 1300 b.liquidus.toNat && within 1100 1650 b.hold.toNat && within 1100 1700 b.tap.toNat &&
      within 5 50 b.bandLow.toNat && within 5 50 b.bandHigh.toNat && within 600 1000 b.heat.toNat &&
      within 250 600 b.meltEnergy.toNat && within 10 240 b.allowance.toNat && within 5 60 b.extension.toNat then
    some ⟨b.liquidus.toNat, b.hold.toNat, b.tap.toNat, b.bandLow.toNat, b.bandHigh.toNat, b.heat.toNat,
      b.meltEnergy.toNat, b.allowance.toNat, b.extension.toNat⟩
  else none

/-- R13: no furnace has an open heat of the grade, and for a REMOVE no request lists it. -/
def State.gradeIdle (s : State) (g : GradeId) (removing : Bool) : Bool :=
  !(furnaceIds.any fun f => (s.furnace f).phase.hasHeat && (s.furnace f).grade == some g) &&
    !(removing && s.queue.any fun r => r.grades.contains g)

/-- R8: the entry is stored. -/
def State.storeGrade (s : State) (g : GradeId) (e : Option GradeCfg) : State :=
  { s with tables := { s.tables with grade := s.tables.grade.set g e } }

/-- R3, R8, R13. -/
def judgeGradeSetup (grade action : Byte) (body : Option GradeBody) (s : State) : Judged :=
  match setupAction 16 grade action body GradeBody.read with
  | none => s.refuse .badField
  | some (g, a) =>
    s.setupChecked (s.gradeIdle g a.entry.isNone) true { s.tables with grade := s.tables.grade.set g a.entry }
      ((s.storeGrade g a.entry).ok (.entry (.grade a.entry)))

def takeGradeSetup (h : Hdr) (grade action : Byte) (body : Option GradeBody) : State → State :=
  serve h .gradeSetup (setupLen action 16) (judgeGradeSetup grade action body)

/-- GRADE_SETUP (R8). -/
def execGradeSetup (h : Hdr) (grade action : Byte) (body : Option GradeBody) (s : State) : Result :=
  receive h (takeGradeSetup h grade action body) s

/-! ## LOOP SETUP (R9, R14) -/

/-- R9: the valve position while LOST. -/
def valveOf (b : Byte) : Option Valve := if b = 0 then some .primary else if b = 1 then some .emergency else none

/-- R9: the fields of a DEFINE. -/
def LoopBody.read (b : LoopBody) : Option LoopCfg :=
  match valveOf b.lostValve with
  | some v =>
    if within 50 1000 b.minPressure.toNat && within 5 100 b.minTank.toNat && within 10 900 b.returnDelay.toNat &&
        within 0 500 b.pumpDraw.toNat && within 0 100 b.emergencyCap.toNat then
      some ⟨b.minPressure.toNat, b.minTank.toNat, b.returnDelay.toNat, b.pumpDraw.toNat, b.emergencyCap.toNat, v⟩
    else none
  | none => none

/-- R14: one of the furnaces holds metal. -/
def State.metalIn (s : State) (fs : List FurnaceId) : Bool := fs.any fun f => (s.furnace f).phase.holdsMetal

/-- R9, R119: the entry is stored. A first definition and a removal leave the values of a new loop and the valve at
PRIMARY; a redefinition keeps the record, and the valve follows the state with the new LOST position. -/
def State.storeLoop (s : State) (l : LoopId) (e : Option LoopCfg) : State :=
  let t : State := { s with tables := { s.tables with loop := s.tables.loop.set l e } }
  match s.loopCfg l, e with
  | some _, some k => t.driveValve l (k.valveFor (s.loop l).state)
  | _, _ => (t.setLoop l Loop.fresh).driveValve l .primary

/-- R9, R14, R68, R133: the loop entry changes, A and B are recomputed, then caps and the trip-held set. -/
def State.setLoopEntry (s : State) (l : LoopId) (e : Option LoopCfg) : State :=
  (s.storeLoop l e).recomputeBudget.refreshPower.tripStart.commit

/-- R3, R9, R14. -/
def judgeLoopSetup (loop action : Byte) (body : Option LoopBody) (s : State) : Judged :=
  match setupAction 4 loop action body LoopBody.read with
  | none => s.refuse .badField
  | some (l, a) =>
    s.setupChecked (!s.metalIn (s.loopAffectedBy l)) (a.entry.isSome || (s.loop l).request == .none)
      { s.tables with loop := s.tables.loop.set l a.entry }
      ((s.setLoopEntry l a.entry).ok (.entry (.loop a.entry)))

def takeLoopSetup (h : Hdr) (loop action : Byte) (body : Option LoopBody) : State → State :=
  serve h .loopSetup (setupLen action 11) (judgeLoopSetup loop action body)

/-- LOOP_SETUP (R9). -/
def execLoopSetup (h : Hdr) (loop action : Byte) (body : Option LoopBody) (s : State) : Result :=
  receive h (takeLoopSetup h loop action body) s

/-! ## CIRCUIT SETUP (R9, R14, R145) -/

/-- R9, R183: target kind FURNACE, SUPPLY or NONE with its index; the index of NONE is 0. -/
def targetOf (kind index : Byte) : Option Target :=
  if kind = 0 then (finOf 6 index).map .furnace
  else if kind = 1 then (finOf 2 index).map .supply
  else if kind = 2 && index = 0 then some .nothing
  else none

/-- R9: the sensing. -/
def sensingOf (b : Byte) : Option Sensing := if b = 0 then some .latching else if b = 1 then some .live else none

/-- R9: the fields of a DEFINE. -/
def CircuitBody.read (b : CircuitBody) : Option CircuitCfg :=
  match finOf 4 b.loop, targetOf b.targetKind b.targetIndex, sensingOf b.sensing with
  | some l, some t, some x =>
    if within 0 1000 b.flowWarn.toNat && within 0 1000 b.flowTrip.toNat && within 0 100 b.flowHyst.toNat &&
        within 0 120 b.tempWarn.toNat && within 0 120 b.tempTrip.toNat && within 0 20 b.tempHyst.toNat &&
        within 0 100 b.derate.toNat then
      some ⟨l, t, b.flowWarn.toNat, b.flowTrip.toNat, b.flowHyst.toNat, b.tempWarn.toNat, b.tempTrip.toNat,
        b.tempHyst.toNat, x, b.derate.toNat⟩
    else none
  | _, _, _ => none

/-- R14: the furnaces a new definition of a circuit would affect. -/
def State.wouldAffect (s : State) (e : Option CircuitCfg) : List FurnaceId :=
  furnaceIds.filter fun f => e.any fun k => s.tables.targets k.target f

/-- R9, R110, R131: the entry is stored; a first definition and a removal leave the values of a new circuit. -/
def State.storeCircuit (s : State) (c : CircuitId) (e : Option CircuitCfg) : State :=
  let t : State := { s with tables := { s.tables with circuit := s.tables.circuit.set c e } }
  (if (s.circuitCfg c).isSome && e.isSome then t else t.setCircuit c Circuit.fresh).refreshPower

/-- R145, step 1: moved onto a suppressing loop. -/
def TripChange.movedLoop (x : TripChange) (c : CircuitId) : TripChange :=
  if (x.st.circuit c).request == .pending && !x.st.loopFree c then x.withdraw c .loop else x

/-- R145, step 2: now LIVE. -/
def TripChange.nowLive (x : TripChange) (c : CircuitId) : TripChange :=
  let live := (x.st.circuitCfg c).any fun k => k.sensing == .live
  if live && (x.st.circuit c).request == .pending && !(x.st.circuit c).condition.bad then x.withdraw c .condition else x

/-- R145, steps 1 to 4; for a first definition they find request NONE, no mask and condition NORMAL. -/
def TripChange.redefined (x : TripChange) (c : CircuitId) : TripChange :=
  (((x.movedLoop c).nowLive c).rejudge c).setupUnmask

/-- R9, R133, R145: the circuit entry changes and the trip controller takes the change. -/
def State.setCircuitEntry (s : State) (c : CircuitId) (e : Option CircuitCfg) : State :=
  let x := (s.storeCircuit c e).tripStart
  (if e.isSome then x.redefined c else x).commit

/-- R3, R9, R14. -/
def judgeCircuitSetup (circuit action : Byte) (body : Option CircuitBody) (s : State) : Judged :=
  match setupAction 16 circuit action body CircuitBody.read with
  | none => s.refuse .badField
  | some (c, a) =>
    s.setupChecked (!s.metalIn (s.affectedBy c ++ s.wouldAffect a.entry))
      (a.entry.isSome || (s.circuit c).request == .none)
      { s.tables with circuit := s.tables.circuit.set c a.entry }
      ((s.setCircuitEntry c a.entry).ok (.entry (.circuit a.entry)))

def takeCircuitSetup (h : Hdr) (circuit action : Byte) (body : Option CircuitBody) : State → State :=
  serve h .circuitSetup (setupLen action 15) (judgeCircuitSetup circuit action body)

/-- CIRCUIT_SETUP (R9). -/
def execCircuitSetup (h : Hdr) (circuit action : Byte) (body : Option CircuitBody) (s : State) : Result :=
  receive h (takeCircuitSetup h circuit action body) s

/-! ## COMMIT, RESTART, power-on (R12, R15, R16) -/

/-- R12. -/
def judgeCommit (s : State) : Judged :=
  if s.part == .running then s.refuse .wrongState
  else match s.tables.firstFailure with
    | some (table, index, check) => s.refuse .badConfig (.badConfig table index check)
    | none => ({ s with part := .running }).ok .nothing

def takeCommit (h : Hdr) : State → State := serve h .commit 0 judgeCommit

/-- COMMIT (R12). -/
def execCommit (h : Hdr) (s : State) : Result := receive h (takeCommit h) s

/-- R16, step 2, R95: a configured supply becomes IDLE with attempt count 0. -/
def State.restartSupply (s : State) (u : SupplyId) : State :=
  if (s.supplyCfg u).isSome then s.setSupply u Supply.fresh else s

/-- R20, R42, R73, column RESTART. -/
def State.restartFurnace (s : State) (f : FurnaceId) : State :=
  if s.configured f && (s.furnace f).service == .reline then
    s.setFurnace f { Furnace.fresh with service := .reline, phase := .empty }
  else s.setFurnace f Furnace.fresh

/-- R16, step 6, R178: a port's notice queue is emptied, but for a notice whose transmission has begun, and its
notices-lost flag is cleared. -/
def PortUnit.restart (p : PortUnit) : PortUnit :=
  { p with lost := false
           notices := if (p.sending.map (·.queue)) == some .notice then p.notices.take 1 else [] }

/-- R16, step 7, R143: every masked circuit is unmasked, in ascending order, without UNMASKED notices. -/
def TripChange.unmaskAll (x : TripChange) : TripChange :=
  circuitIds.foldl (fun y c => if (y.st.circuit c).masked then y.unmask c none else y) x

/-- R156: RESTART sets TAP_READY clear and the blocking-reason set, without notices. -/
def State.restartReadiness (s : State) : State :=
  furnaceIds.foldl (fun t f =>
    if s.configured f then t.modFurnace f fun r => { r with tapReady := false, blocking := s.blockingNow f } else t) s

/-- R16: the effects of RESTART in their order. -/
def State.restart (s : State) : State :=
  let s1 : State := { s with part := .configuring }
  let s2 := supplyIds.foldl State.restartSupply s1
  let s3 := furnaceIds.foldl State.restartFurnace s2
  let s4 : State := { s3 with queue := [] }
  let s5 : State := { s4 with budget := { s4.budget with origin := .default } }
  let s6 : State := { s5 with sup := s5.sup.restart, deck := s5.deck.restart }
  ((s6.refreshPower.tripStart.unmaskAll).commit).restartReadiness

/-- R16. -/
def judgeRestart (s : State) : Judged := s.restart.ok .nothing

def takeRestart (h : Hdr) : State → State := serve h .restart 0 judgeRestart

/-- RESTART (R16). -/
def execRestart (h : Hdr) (s : State) : Result := receive h (takeRestart h) s

/-- R15: every item of the part returns to its power-on value. The levels on the input pins, the commands that wait and
the model's own counter are not the part's (log entry 3). -/
def State.powerOn (s : State) : State :=
  { State.reset with inputs := s.inputs, pending := s.pending, freeCount := s.freeCount }

/-- POWER_ON (R15). -/
def execPowerOn (s : State) : Result := .next s.powerOn

/-! ## PART STATUS and TABLE REPORT (R17, R18) -/

/-- R17. -/
def judgePartStatus (port : Port) (s : State) : Judged :=
  ⟨s, .ok, none, .partStatus s.part s.uptime s.budget.clock s.budget.ceiling (s.port port).lost, .clearLost⟩

def takePartStatus (h : Hdr) : State → State := serve h .partStatus 0 (judgePartStatus h.port)

/-- PART_STATUS (R17). -/
def execPartStatus (h : Hdr) (s : State) : Result := receive h (takePartStatus h) s

/-- R18, R183: the entry that a table byte and an index byte name. -/
def State.tableEntry (s : State) (table index : Byte) : Option TableEntry :=
  match table.toNat with
  | 0 => some (.site s.site)
  | 1 => (finOf 6 index).map fun f => .furnace (s.furnaceCfg f)
  | 2 => (finOf 2 index).map fun u => .supply (s.supplyCfg u)
  | 3 => (finOf 16 index).map fun g => .grade (s.gradeCfg g)
  | 4 => (finOf 4 index).map fun l => .loop (s.loopCfg l)
  | 5 => (finOf 16 index).map fun c => .circuit (s.circuitCfg c)
  | _ => none

/-- R18. -/
def judgeTableReport (table index : Byte) (s : State) : Judged :=
  match s.tableEntry table index with
  | some e => s.ok (.entry e)
  | none => s.refuse .badField

def takeTableReport (h : Hdr) (table index : Byte) : State → State :=
  serve h .tableReport 2 (judgeTableReport table index)

/-- TABLE_REPORT (R18). -/
def execTableReport (h : Hdr) (table index : Byte) (s : State) : Result := receive h (takeTableReport h table index) s

end Sys2Proof.Machine
end

