-- ==== Sys2Proof/Machine/Supplies.lean ====
section
/-! DEFINITION. SUPPLY RESET, the supplies' timers and their input changes (R97 to R103). -/

namespace Sys2Proof.Machine

/-- R102. -/
def State.resetSupply (s : State) (u : SupplyId) (port : Port) : State :=
  (((s.setSupply u { s.supply u with state := .idle, attempts := 0 }).refreshPower).supplyNotice u (.reset port)).tapChange
    (s.furnacesOn u)

/-- R102. -/
def judgeSupplyReset (port : Port) (supply : Byte) (s : State) : Judged :=
  match finOf 2 supply with
  | none => s.refuse .badField
  | some u =>
    if (s.supplyCfg u).isNone then s.refuse .noSuch
    else if (s.supply u).state != .failed then s.refuse .wrongState
    else
      let t := s.resetSupply u port
      t.ok (.supply (t.supply u).state (t.supply u).attempts (t.supply u).total)

def takeSupplyReset (h : Hdr) (supply : Byte) : State → State := serve h .supplyReset 1 (judgeSupplyReset h.port supply)

/-- SUPPLY_RESET (R102). -/
def execSupplyReset (h : Hdr) (supply : Byte) (s : State) : Result := receive h (takeSupplyReset h supply) s

/-- R95: the supply is in the state named for a timer, and that timer runs. -/
def Supply.times (r : Supply) (x : SupplyState) (k : SupplyTimer) : Bool :=
  r.state == x && r.timer.any fun t => t.which == k

/-- START_TIMER_EXPIRY (R97, R99): a failed attempt with cause START_TIMEOUT. -/
def execStartTimerExpiry (u : SupplyId) (s : State) : Result :=
  event (fun s => if (s.supply u).times .starting .start then s.failAttempt u .startTimeout else s) s

/-- RETRY_TIMER_EXPIRY (R99): the supply enters STARTING. -/
def execRetryTimerExpiry (u : SupplyId) (s : State) : Result :=
  event (fun s => if (s.supply u).times .retryWait .retry then s.enterStarting u else s) s

/-- RESET_HOLD_TIMER_EXPIRY (R99): the supply enters STARTING. -/
def execResetHoldTimerExpiry (u : SupplyId) (s : State) : Result :=
  event (fun s => if (s.supply u).times .resetting .resetHold then s.enterStarting u else s) s

/-- RESET_PULSE_END (R99): the reset output, asserted for the first 200 ms of RESETTING, is de-asserted. -/
def execResetPulseEnd (u : SupplyId) (s : State) : Result :=
  event (fun s => s.setSupply u { s.supply u with resetOut := false }) s

/-- STABLE_RUN_TIMER_EXPIRY (R98): the attempt count becomes 0; the timer is not restarted. -/
def execStableRunTimerExpiry (u : SupplyId) (s : State) : Result :=
  event (fun s =>
    if (s.supply u).times .running .stableRun then s.setSupply u { s.supply u with attempts := 0, timer := none } else s) s

/-- A supply's inputs take new levels. -/
def State.setInputs (s : State) (u : SupplyId) (i : Inputs) : State := { s with inputs := s.inputs.set u i }

/-- R98: the running input drops in RUNNING without a fault. -/
def State.runLost (s : State) (u : SupplyId) : State := (s.enterStarting u).supplyNotice u .runLost

/-- R97, R98: a change of the running input is judged in STARTING and RUNNING, while the fault input is not asserted. -/
def State.judgeRunning (s : State) (u : SupplyId) (asserted : Bool) : State :=
  if (s.supplyCfg u).isNone || s.inputs[u].fault then s
  else match (s.supply u).state, asserted with
    | .starting, true => s.enterRunning u
    | .running, false => s.runLost u
    | _, _ => s

/-- RUNNING_INPUT_CHANGE (R97, R98). -/
def execRunningInputChange (u : SupplyId) (asserted : Bool) (s : State) : Result :=
  event (fun s =>
    if s.inputs[u].running == asserted then s
    else (s.setInputs u { s.inputs[u] with running := asserted }).judgeRunning u asserted) s

/-- R97, R98: the fault input becoming asserted in STARTING or RUNNING is a failed attempt. -/
def State.judgeFault (s : State) (u : SupplyId) (asserted : Bool) : State :=
  if asserted && (s.supplyCfg u).isSome && (s.supply u).state.drives then s.failAttempt u .faultInput else s

/-- FAULT_INPUT_CHANGE (R97, R98, R99). -/
def execFaultInputChange (u : SupplyId) (asserted : Bool) (s : State) : Result :=
  event (fun s =>
    if s.inputs[u].fault == asserted then s
    else (s.setInputs u { s.inputs[u] with fault := asserted }).judgeFault u asserted) s

end Sys2Proof.Machine
end

