-- ==== Sys2Proof/Machine/TapExec.lean ====
section
/-! DEFINITION. Tap execution (chapter 11): TAP START, LADLE DONE and TAP END. -/

namespace Sys2Proof.Machine

/-- R166, steps 1 to 5: the ASSIGNED record r on furnace f starts. -/
def State.startTap (s : State) (r : Tap) (f : FurnaceId) (port : Port) : State :=
  let t := (s.modTap r.id fun q => { q with state := .started }).recomputeClass f
  (t.tapNotice { r with state := .started } (.started port (t.furnace f).mass)).changePhase f .tapping .tapStart

/-- R165, R166: the last check of TAP START, after the readiness of the assigned furnace has been evaluated. -/
def State.tryStart (s : State) (r : Tap) (f : FurnaceId) (port : Port) : Judged :=
  let t := s.evaluate f
  let x := t.furnace f
  if !x.tapReady then ⟨t, .refused, some .notReady, .notReady x.blocking f x.bath.estimate, .nothing⟩
  else
    let q := (t.tap r.id).getD r
    (t.startTap q f port).ok (.tapStarted r.id f r.ladles r.ladleMass x.mass)

/-- R165. -/
def judgeTapStart (port : Port) (id : Byte) (s : State) : Judged :=
  if s.part != .running then s.refuse .wrongState
  else if id = 0 then s.refuse .badField
  else match s.tap id.toNat with
    | none => s.refuse .noSuch
    | some r =>
      match r.state == .assigned, r.assigned with
      | true, some f => s.tryStart r f port
      | _, _ => s.refuse .wrongState (.tapState r.state)

def takeTapStart (h : Hdr) (id : Byte) : State → State := serve h .tapStart 1 (judgeTapStart h.port id)

/-- TAP_START (R166). -/
def execTapStart (h : Hdr) (id : Byte) (s : State) : Result := receive h (takeTapStart h id) s

/-- R168, step 5: the state a LADLE DONE leaves the record in, and the code of a termination. -/
def ladleOutcome (r : Tap) (mass : Nat) : TapState × Option EndCode :=
  if r.done == r.ladles then (.complete, none)
  else if mass == 0 then (.terminated, some .mass)
  else if r.softStop then (.terminated, some .temperature)
  else (.started, none)

/-- R168, steps 1 to 4: one ladle is counted, with its TAP notice. -/
def State.countLadle (s : State) (r : Tap) (f : FurnaceId) (poured counted : Nat) : State :=
  let t := (s.modFurnace f fun x => { x with mass := x.mass - counted }).modTap r.id fun q => { q with done := q.done + 1 }
  t.tapNotice { r with done := r.done + 1 } (.ladle poured counted (t.furnace f).mass)

/-- R168, step 5. -/
def State.settleLadle (s : State) (r : Tap) (f : FurnaceId) : State :=
  match ladleOutcome r (s.furnace f).mass with
  | (.started, _) => s.tapChange [f]
  | (_, code) => s.endTap r f code

/-- R168. DESIGN CHOICE (log entry 39): a field out of range is refused before a record that is absent or not STARTED. -/
def judgeLadleDone (id : Byte) (mass : Half) (s : State) : Judged :=
  if s.part != .running then s.refuse .wrongState
  else if id = 0 || mass = 0 then s.refuse .badField
  else match s.tap id.toNat with
    | none => s.refuse .wrongState
    | some r =>
      match r.state == .started, r.assigned with
      | true, some f =>
        let counted := min mass.toNat (s.furnace f).mass
        let t := s.countLadle r f mass.toNat counted
        let q := { r with done := r.done + 1 }
        let left := (t.furnace f).mass
        let out := ladleOutcome q left
        (t.settleLadle q f).taken (counted < mass.toNat) (.ladle counted left q.done out.1 out.2)
      | _, _ => s.refuse .wrongState

def takeLadleDone (h : Hdr) (id : Byte) (mass : Half) : State → State := serve h .ladleDone 3 (judgeLadleDone id mass)

/-- LADLE_DONE (R168). -/
def execLadleDone (h : Hdr) (id : Byte) (mass : Half) (s : State) : Result := receive h (takeLadleDone h id mass) s

/-- R170. DESIGN CHOICE (log entry 39): its refusals stand in the order of LADLE DONE's. -/
def judgeTapEnd (id : Byte) (s : State) : Judged :=
  if s.part != .running then s.refuse .wrongState
  else if id = 0 then s.refuse .badField
  else match s.tap id.toNat with
    | none => s.refuse .wrongState
    | some r =>
      match r.state == .started, r.assigned with
      | true, some f => (s.endTap r f (some .hostEnd)).ok (.tapEnded r.done (s.furnace f).mass)
      | _, _ => s.refuse .wrongState

def takeTapEnd (h : Hdr) (id : Byte) : State → State := serve h .tapEnd 1 (judgeTapEnd id)

/-- TAP_END (R170). -/
def execTapEnd (h : Hdr) (id : Byte) (s : State) : Result := receive h (takeTapEnd h id) s

end Sys2Proof.Machine
end

