-- ==== Sys2Proof/Machine/Taps.lean ====
section
/-! DEFINITION. The tap queue's requests and times, the standby table and TAP QUEUE REPORT (R150 to R154, R163). -/

namespace Sys2Proof.Machine

/-! ## TAP REQUEST (R150) -/

/-- R182: the grade list of a TAP REQUEST body; entries beyond the count are ignored. -/
def tapGrades (b : TapBody) : Option (List GradeId) :=
  ([b.g0, b.g1, b.g2, b.g3].take b.count.toNat).mapM (finOf 16)

/-- R182: the pinned furnace, 0xFF for none; a byte that is neither is out of range. -/
def tapPin (b : TapBody) : Option (Option FurnaceId) :=
  if b.pinned = 0xFF then some none else (finOf 6 b.pinned).map some

/-- No grade is repeated (R150). -/
def distinct (l : List GradeId) : Bool :=
  match l with
  | [] => true
  | g :: rest => !rest.contains g && distinct rest

/-- R150: the ranges of the body's numbers. -/
def tapInRange (b : TapBody) : Bool :=
  within 1 255 b.id.toNat && within 1 4 b.count.toNat && within 1 8 b.ladles.toNat &&
    within 100 10000 b.ladleMass.toNat && within 0 7200 b.openDelay.toNat && within 60 3600 b.window.toNat

/-- R150: the record a taken TAP REQUEST makes. -/
def tapRecord (b : TapBody) (grades : List GradeId) (pin : Option FurnaceId) (uptime : Nat) : Tap :=
  { id := b.id.toNat, state := if b.openDelay = 0 then .opened else .waiting, grades := grades,
    ladles := b.ladles.toNat, ladleMass := b.ladleMass.toNat, openAt := uptime + b.openDelay.toNat,
    closeAt := uptime + b.openDelay.toNat + b.window.toNat, pinned := pin, redirected := false, assigned := none,
    chosen := none, downgraded := false, done := 0, softStop := false, staleSent := false }

/-- R148: a record takes its place: by open time, behind the records of the same open time. -/
def enqueue (r : Tap) : List Tap → List Tap
  | [] => [r]
  | q :: rest => if q.openAt ≤ r.openAt then q :: enqueue r rest else r :: q :: rest

/-- The position of a record in a queue, counted from 0 (R181). -/
def positionOf (id : Nat) (l : List Tap) : Nat := (l.takeWhile fun q => q.id != id).length

/-- R150: the furnace is at present the standby of a furnace. -/
def State.isStandby (s : State) (f : FurnaceId) : Bool := furnaceIds.any fun g => s.standby[g] == some f

/-- R150: the record enters the queue. -/
def State.accept (s : State) (r : Tap) : State := { s with queue := enqueue r s.queue }

/-- R150. -/
def judgeTapRequest (body : TapBody) (s : State) : Judged :=
  if s.part != .running then s.refuse .wrongState
  else match (if tapInRange body then tapGrades body else none), tapPin body with
    | some grades, some pin =>
      if !distinct grades then s.refuse .badField
      else if !(grades.all fun g => (s.gradeCfg g).isSome) || !(pin.all s.configured) then s.refuse .noSuch
      else if (s.tap body.id.toNat).isSome then s.refuse .duplicate
      else if 16 ≤ s.queue.length then s.refuse .full
      else if pin.any s.isStandby then s.refuse .standbyDirect
      else
        let r := tapRecord body grades pin s.uptime
        let t := s.accept r
        ⟨t, .ok, none, .tapTaken r.state r.openAt r.closeAt (positionOf r.id t.queue),
          if r.state == .opened then .matching else .nothing⟩
    | _, _ => s.refuse .badField

def takeTapRequest (h : Hdr) (body : TapBody) : State → State := serve h .tapRequest 14 (judgeTapRequest body)

/-- TAP_REQUEST (R150). -/
def execTapRequest (h : Hdr) (body : TapBody) (s : State) : Result := receive h (takeTapRequest h body) s

/-! ## Open and close times, TAP CANCEL (R151, R152, R153) -/

/-- R151. -/
def State.openRecord (s : State) (id : Nat) : State :=
  match s.tap id with
  | some r =>
    if r.state == .waiting && r.openAt ≤ s.uptime then
      (s.modTap id fun q => { q with state := .opened }).matchingPass
    else s
  | none => s

/-- OPEN_TIME (R151). -/
def execOpenTime (id : Nat) (s : State) : Result := event (fun s => s.openRecord id) s

/-- R152, R153: a record that has not started leaves the queue: its furnace, if any, is parted from it, the record is
removed with its TAP notice, the furnace is evaluated, and a matching pass runs. -/
def State.withdrawRecord (s : State) (r : Tap) (last : TapState) (e : Option FurnaceId → TapEvent) : State :=
  let held := if r.state == .assigned then r.assigned else none
  let t := match held with
    | some f => s.part1and2 r.id f
    | none => s
  let q := (t.tap r.id).getD r
  let u := (t.dropTap r.id).tapNotice { q with state := last } (e held)
  (match held with
    | some f => u.evaluate f
    | none => u).matchingPass

/-- R152. -/
def State.closeRecord (s : State) (id : Nat) : State :=
  match s.tap id with
  | some r =>
    if (r.state == .opened || r.state == .assigned) && r.closeAt ≤ s.uptime then
      s.withdrawRecord r .expired .expired
    else s
  | none => s

/-- CLOSE_TIME (R152). -/
def execCloseTime (id : Nat) (s : State) : Result := event (fun s => s.closeRecord id) s

/-- R153. DESIGN CHOICE (log entry 39): its refusals stand in the order in which R153 names them. -/
def judgeTapCancel (id : Byte) (s : State) : Judged :=
  if s.part != .running then s.refuse .wrongState
  else if id = 0 then s.refuse .badField
  else match s.tap id.toNat with
    | none => s.refuse .noSuch
    | some r =>
      if r.state == .started then s.refuse .wrongState
      else
        let t := s.withdrawRecord r .cancelled fun f => .cancelled r.state f
        t.ok (.tapCancelled r.state (if r.state == .assigned then r.assigned else none))

def takeTapCancel (h : Hdr) (id : Byte) : State → State := serve h .tapCancel 1 (judgeTapCancel id)

/-- TAP_CANCEL (R153). -/
def execTapCancel (h : Hdr) (id : Byte) (s : State) : Result := receive h (takeTapCancel h id) s

/-! ## The standby table (R154) -/

/-- R154: the second check of STANDBY SET fails. -/
def State.standbyTaken (s : State) (f x : FurnaceId) : Bool :=
  (furnaceIds.any fun g => g != f && s.standby[g] == some x) || s.isStandby f || (s.standby[x]).isSome

/-- R154: a furnace's standby is written. -/
def State.setStandby (s : State) (f : FurnaceId) (x : Option FurnaceId) : State :=
  { s with standby := s.standby.set f x }

/-- R154. DESIGN CHOICE (log entry 41): the checks stand before the sentence that a STANDBY SET naming the standby f
already has is taken, so one whose standby has become RELINE is refused with STANDBY_UNFIT. DESIGN CHOICE (log entry 39): an
index out of range is refused before an unconfigured furnace. -/
def judgeStandbySet (furnace standby : Byte) (s : State) : Judged :=
  if s.part != .running then s.refuse .wrongState
  else match finOf 6 furnace, finOf 6 standby with
    | some f, some x =>
      if !s.configured f || !s.configured x then s.refuse .noSuch
      else if x == f then s.refuse .standbySelf
      else if s.standbyTaken f x then s.refuse .standbyTaken
      else if (s.furnace x).service != .inService then s.refuse .standbyUnfit
      else (s.setStandby f (some x)).ok (.standby (some x))
    | _, _ => s.refuse .badField

def takeStandbySet (h : Hdr) (furnace standby : Byte) : State → State :=
  serve h .standbySet 2 (judgeStandbySet furnace standby)

/-- STANDBY_SET (R154). -/
def execStandbySet (h : Hdr) (furnace standby : Byte) (s : State) : Result :=
  receive h (takeStandbySet h furnace standby) s

/-- R154: the reply is OK and carries no data; an unconfigured furnace is refused as R2 gives. -/
def judgeStandbyClear (furnace : Byte) (s : State) : Judged :=
  s.heatCheck furnace true true (fun _ => true) fun f _ => (s.setStandby f none).ok .nothing

def takeStandbyClear (h : Hdr) (furnace : Byte) : State → State := serve h .standbyClear 1 (judgeStandbyClear furnace)

/-- STANDBY_CLEAR (R154). -/
def execStandbyClear (h : Hdr) (furnace : Byte) (s : State) : Result := receive h (takeStandbyClear h furnace) s

/-! ## TAP QUEUE REPORT (R163, R181) -/

/-- R163, R181: part p carries the records in queue positions 4p to 4p + 3 that exist. -/
def judgeTapQueueReport (part : Byte) (s : State) : Judged :=
  if part.toNat ≤ 3 then
    s.ok (.tapQueue s.queue.length s.standby.toList s.matcher ((s.queue.drop (4 * part.toNat)).take 4))
  else s.refuse .badField

def takeTapQueueReport (h : Hdr) (part : Byte) : State → State := serve h .tapQueueReport 1 (judgeTapQueueReport part)

/-- TAP_QUEUE_REPORT (R163). -/
def execTapQueueReport (h : Hdr) (part : Byte) (s : State) : Result := receive h (takeTapQueueReport h part) s

end Sys2Proof.Machine
end

