-- ==== Sys2Proof/Machine/Trips.lean ====
section
/-! DEFINITION. The trip controller's requests (R139 to R143). -/

namespace Sys2Proof.Machine

/-- A source byte that must name a circuit; a loop, or a byte beyond the sources, is a field out of range (R139, R142). -/
def circuitOf (b : Byte) : Option CircuitId := finOf 16 b

/-- R139. -/
def judgeTripRotate (source : Byte) (s : State) : Judged :=
  match circuitOf source with
  | none => s.refuse .badField
  | some c => ({ s with bottom := c }).ok (.bottom c)

def takeTripRotate (h : Hdr) (source : Byte) : State → State := serve h .tripRotate 1 (judgeTripRotate source)

/-- TRIP_ROTATE (R139). -/
def execTripRotate (h : Hdr) (source : Byte) (s : State) : Result := receive h (takeTripRotate h source) s

/-- R139: the configured circuits in rotating order: from the circuit after the bottom pointer to the pointer's own. -/
def State.rotatingOrder (s : State) : List CircuitId :=
  (circuitIds.filter (fun c => s.bottom < c) ++ circuitIds.filter (fun c => c ≤ s.bottom)).filter
    fun c => (s.circuitCfg c).isSome

/-- R139: the poll order: the configured loops, then the circuits in rotating order. -/
def State.pollOrder (s : State) : List Source :=
  ((loopIds.filter fun l => (s.loopCfg l).isSome).map Source.loop) ++ s.rotatingOrder.map Source.circuit

/-- R140, case 1: the first PENDING source in poll order. -/
def State.firstPending (s : State) : Option Source := s.pollOrder.find? fun x => s.requestOf x == .pending

/-- R140, case 2: the first circuit in rotating order with a transient mark. -/
def State.firstTransient (s : State) : Option CircuitId := s.rotatingOrder.find? fun c => (s.circuit c).transient

/-- A source's request state is written within a change. -/
def TripChange.setRequest (x : TripChange) (src : Source) (r : Request) : TripChange :=
  match src with
  | .circuit c => x.modCircuit c fun y => { y with request := r }
  | .loop l => { x with st := x.st.setLoop l { x.st.loop l with request := r } }

/-- R140: the answer of a poll that returns a source. -/
def State.pollAnswer (s : State) (kind : PollKind) (src : Source) : PollAnswer :=
  ⟨kind, s.sourceView src, s.requestOf src, s.affectedBySource src, s.held⟩

/-- R140. -/
def judgeTripPoll (port : Port) (s : State) : Judged :=
  match s.firstPending with
  | some src =>
    let t := ((s.tripStart.setRequest src .inService).note src (.polled .request port)).commit
    t.ok (.poll (some (t.pollAnswer .request src)))
  | none =>
    match s.firstTransient with
    | some c =>
      let x := s.tripStart.modCircuit c fun y => { y with transient := false }
      let t := (x.note (.circuit c) (.polled .transient port)).commit
      t.ok (.poll (some (t.pollAnswer .transient (.circuit c))))
    | none => s.ok (.poll none)

def takeTripPoll (h : Hdr) : State → State := serve h .tripPoll 0 (judgeTripPoll h.port)

/-- TRIP_POLL (R140). -/
def execTripPoll (h : Hdr) (s : State) : Result := receive h (takeTripPoll h) s

/-- The source is configured. -/
def State.sourceConfigured (s : State) : Source → Bool
  | .circuit c => (s.circuitCfg c).isSome
  | .loop l => (s.loopCfg l).isSome

/-- R141: the source's condition is present. -/
def State.conditionPresent (s : State) : Source → Bool
  | .circuit c => (s.circuit c).condition.bad
  | .loop l => (s.loop l).state == .lost

/-- R141, steps 1 to 4 of a taken clear, within step 1 of R132. -/
def State.clearSource (s : State) (src : Source) (port : Port) : TripChange :=
  let x := s.tripStart.setRequest src .none
  match src with
  | .circuit c =>
    let y : TripChange := if s.site.autoRotate then ⟨{ x.st with bottom := c }, x.raises, x.notices⟩ else x
    y.note src (.cleared port y.st.bottom)
  | .loop l => (s.circuitsOf l).foldl TripChange.rejudge (x.note src (.cleared port x.st.bottom))

/-- The circuits among the sources that a change raised. -/
def TripChange.raisedCircuits (x : TripChange) : List CircuitId :=
  x.raises.filterMap fun r => match r.source with
    | .circuit c => some c
    | .loop _ => none

/-- R141. -/
def judgeTripClear (port : Port) (source : Byte) (s : State) : Judged :=
  match sourceOf source with
  | none => s.refuse .badField
  | some src =>
    if !s.sourceConfigured src then s.refuse .noSuch
    else if s.requestOf src != .inService then s.refuse .wrongState
    else if s.conditionPresent src then s.refuse .conditionPresent
    else
      let x := s.clearSource src port
      let t := x.commit
      t.ok (.tripCleared src (t.requestOf src) t.bottom x.raisedCircuits t.held)

def takeTripClear (h : Hdr) (source : Byte) : State → State := serve h .tripClear 1 (judgeTripClear h.port source)

/-- TRIP_CLEAR (R141). -/
def execTripClear (h : Hdr) (source : Byte) (s : State) : Result := receive h (takeTripClear h source) s

/-- R142, R143: the reply data of both requests. -/
def State.maskReply (s : State) (c : CircuitId) : ReplyData :=
  .mask (s.circuit c).condition (s.circuit c).request s.held

/-- R142: a circuit is masked. -/
def State.maskCircuit (s : State) (c : CircuitId) : State :=
  let before := (s.circuit c).request
  ((s.tripStart.modCircuit c fun y => { y with masked := true, request := .none, transient := false }).note
    (.circuit c) (.masked before)).commit

/-- R142. -/
def judgeMask (source : Byte) (s : State) : Judged :=
  match circuitOf source with
  | none => s.refuse .badField
  | some c =>
    if (s.circuitCfg c).isNone then s.refuse .noSuch
    else if (s.affectedBy c).any (fun f => (s.furnace f).phase.holdsMetal) then s.refuse .interlock
    else if (s.circuit c).masked then s.ok (s.maskReply c)
    else
      let t := s.maskCircuit c
      t.ok (t.maskReply c)

def takeMask (h : Hdr) (source : Byte) : State → State := serve h .mask 1 (judgeMask source)

/-- MASK (R142). -/
def execMask (h : Hdr) (source : Byte) (s : State) : Result := receive h (takeMask h source) s

/-- R143. -/
def judgeUnmask (source : Byte) (s : State) : Judged :=
  match circuitOf source with
  | none => s.refuse .badField
  | some c =>
    if (s.circuitCfg c).isNone then s.refuse .noSuch
    else if !(s.circuit c).masked then s.ok (s.maskReply c)
    else
      let t := (s.tripStart.unmask c (some .request)).commit
      t.ok (t.maskReply c)

def takeUnmask (h : Hdr) (source : Byte) : State → State := serve h .unmask 1 (judgeUnmask source)

/-- UNMASK (R143). -/
def execUnmask (h : Hdr) (source : Byte) (s : State) : Result := receive h (takeUnmask h source) s

end Sys2Proof.Machine
end

