-- ==== Sys2Proof/Machine/Wire.lean ====
section
/-! DEFINITION. The bytes of replies and notices (R177, R178, R182, R184). Choices that the manual leaves open here are log
entries 16, 17, 36 and 43. -/

namespace Sys2Proof.Machine

/-! ## Fields -/

/-- R184: a run of bytes, or an optional field with its bytes; an absent one is sent as zeros. -/
inductive Item where
  | plain (bytes : List Byte)
  | opt (present : Bool) (bytes : List Byte)
  deriving DecidableEq, Repr

/-- R182: a value in n bytes, high byte first. -/
def be : Nat → Nat → List Byte
  | 0, _ => []
  | n + 1, v => be n (v / 256) ++ [BitVec.ofNat 8 v]

/-- A value of n bytes. -/
def num (n v : Nat) : Item := .plain (be n v)
/-- One byte. -/
def one (v : Nat) : Item := num 1 v
/-- A flag. -/
def flag (b : Bool) : Item := one b.toNat
/-- An optional field of n bytes. -/
def maybe {α : Type} (n : Nat) (x : Option α) (bytes : α → List Byte) : Item :=
  match x with
  | some v => .opt true (bytes v)
  | none => .opt false (be n 0)
/-- An optional number of n bytes. -/
def maybeNum (n : Nat) (x : Option Nat) : Item := maybe n x (be n)

/-- The bytes of one item. -/
def Item.bytes : Item → List Byte
  | .plain b => b
  | .opt _ b => b

/-- The presence bits of the optional fields, in order. -/
def presence : List Item → List Bool
  | [] => []
  | .plain _ :: rest => presence rest
  | .opt p _ :: rest => p :: presence rest

/-- A number whose bit n is the n-th of a list. -/
def bitsOf : List Bool → Nat
  | [] => 0
  | b :: rest => b.toNat + 2 * bitsOf rest

/-- R184: data that holds optional fields begins with a two-byte presence mask; a set bit marks a field present (log entry
16). -/
def dataBytes (l : List Item) : List Byte :=
  let p := presence l
  (if p.isEmpty then [] else be 2 (bitsOf p)) ++ l.flatMap Item.bytes

/-- R184: a set of furnaces. -/
def furnaceSet (l : List FurnaceId) : Item := num 1 (bitsOf (furnaceIds.map l.contains))
/-- R184: a set of circuits. -/
def circuitSet (l : List CircuitId) : Item := num 2 (bitsOf (circuitIds.map l.contains))
/-- R182: the blocking-reason set, bit n for the n-th reason of R156. -/
def blockingSet (l : List Blocking) : Item := num 2 (bitsOf (blockingReasons.map l.contains))

/-! ## Codes (R182): from 0 in the order in which the names are listed -/

def portCode : Port → Nat
  | .sup => 0 | .deck => 1
def PartState.code : PartState → Nat
  | .configuring => 0 | .running => 1
def Valve.code : Valve → Nat
  | .primary => 0 | .emergency => 1
def Sensing.code : Sensing → Nat
  | .latching => 0 | .live => 1
def Target.codes : Target → Nat × Nat
  | .furnace f => (0, f.val) | .supply u => (1, u.val) | .nothing => (2, 0)
def TableKind.code : TableKind → Nat
  | .site => 0 | .furnace => 1 | .supply => 2 | .grade => 3 | .loop => 4 | .circuit => 5
def CheckCode.code : CheckCode → Nat
  | .noSupply => 0 | .channelTaken => 1 | .gradeOrder => 2 | .noLoop => 3 | .noTarget => 4 | .flowOrder => 5
  | .tempOrder => 6
def Service.code : Service → Nat
  | .inService => 0 | .reline => 1
def Phase.code : Phase → Nat
  | .undeclared => 0 | .empty => 1 | .melting => 2 | .superheat => 3 | .holding => 4 | .tapping => 5
def PhaseCause.code : PhaseCause → Nat
  | .openHeat => 0 | .declareLiquid => 1 | .declareEmpty => 2 | .meltEnergy => 3 | .meltDip => 4 | .setpoint => 5
  | .tapHeat => 6 | .charge => 7 | .tapStart => 8 | .tapEnd => 9
def Source.code : Source → Nat
  | .circuit c => c.val | .loop l => 16 + l.val
def CoolingCode.code : CoolingCode → Nat
  | .circuitTrip => 0 | .circuitLost => 1 | .loopLost => 2
def TapFaultCode.code : TapFaultCode → Nat
  | .cooling => 0 | .mass => 1 | .temperature => 2
def PowerClass.code : PowerClass → Nat
  | .defer => 0 | .economy => 1 | .standard => 2 | .expedite => 3 | .critical => 4
def Group.code : Group → Nat
  | .isProtected => 0 | .working => 1 | .nothing => 2
def SupplyState.code : SupplyState → Nat
  | .idle => 0 | .starting => 1 | .running => 2 | .retryWait => 3 | .resetting => 4 | .failed => 5
def FailCause.code : FailCause → Nat
  | .startTimeout => 0 | .faultInput => 1
def Line.code : Line → Nat
  | .idle => 0 | .scanning _ => 1
def ScanCause.code : ScanCause → Nat
  | .periodic => 0 | .alarm => 1
def Condition.code : Condition → Nat
  | .normal => 0 | .warn => 1 | .trip => 2 | .lost => 3
def Request.code : Request → Nat
  | .none => 0 | .pending => 1 | .inService => 2
def LoopState.code : LoopState → Nat
  | .primary => 0 | .emergency => 1 | .lost => 2
def LoopCause.code : LoopCause → Nat
  | .primaryFailed => 0 | .tankFailed => 1 | .returnDelay => 2 | .primaryRestored => 3 | .tankAvailable => 4 | .test => 5
def TapState.code : TapState → Nat
  | .waiting => 0 | .opened => 1 | .assigned => 2 | .started => 3 | .complete => 4 | .terminated => 5 | .expired => 6
  | .cancelled => 7
def EndCode.code : EndCode → Nat
  | .mass => 0 | .temperature => 1 | .cooling => 2 | .hostEnd => 3
def Ineligible.code : Ineligible → Nat
  | .notInService => 0 | .wrongPhase => 1 | .wrongGrade => 2 | .otherRequest => 3 | .massShort => 4 | .tripHeld => 5
  | .supplyFailed => 6 | .overheld => 7 | .unapproved => 8 | .otherPin => 9
def Status.code : Status → Nat
  | .ok => 0 | .adjusted => 1 | .refused => 2
/-- R177: the reasons are coded 1 to 18. -/
def Reason.code : Reason → Nat
  | .unknownKind => 1 | .badLength => 2 | .badField => 3 | .notPermitted => 4 | .wrongState => 5 | .noSuch => 6
  | .duplicate => 7 | .full => 8 | .interlock => 9 | .conditionPresent => 10 | .notReady => 11 | .needUnconditional => 12
  | .extensionsUsed => 13 | .standbySelf => 14 | .standbyTaken => 15 | .standbyUnfit => 16 | .standbyDirect => 17
  | .badConfig => 18
def DipOutcome.code : DipOutcome → Nat
  | .accepted => 0 | .confirmed => 1 | .held => 2 | .replaced => 3 | .implausible => 4
def ChemCause.code : ChemCause → Nat
  | .request => 0 | .extension => 1 | .charge => 2
def RedirectReason.code : RedirectReason → Nat
  | .cooling => 0 | .supply => 1
def SoftStopCause.code : SoftStopCause → Nat
  | .expiry => 0 | .dip => 1
def ClassCause.code : ClassCause → Nat
  | .request => 0 | .allowance => 1
def CeilingCause.code : CeilingCause → Nat
  | .slot => 0 | .override => 1 | .default => 2
def WithdrawCause.code : WithdrawCause → Nat
  | .condition => 0 | .loop => 1
def PollKind.code : PollKind → Nat
  | .request => 0 | .transient => 1
def UnmaskCause.code : UnmaskCause → Nat
  | .request => 0 | .setup => 1

/-! ## Shared groups of fields -/

/-- The shop clock, absent while UNSET. -/
def clockItem (c : Option Clock) : Item := maybe 4 c fun c => be 1 c.weekday ++ be 2 c.minute ++ be 1 c.second

/-- The origin of the ceiling, with the slot number for SCHEDULE. -/
def originItems : Origin → List Item
  | .default => [one 0, .opt false [0]]
  | .schedule n => [one 1, .opt true (be 1 n.val)]
  | .override => [one 2, .opt false [0]]

/-- A dip: temperature and stamp. -/
def dipBytes (d : Dip) : List Byte := be 2 d.temp ++ be 4 d.stamp

/-- A schedule slot (R64). DESIGN CHOICE (log entry 17): its set of weekdays is one byte, as R183 sends it. -/
def slotItems (x : Slot) : List Item := [flag x.enabled, num 1 x.days.toNat, num 2 x.start, num 2 x.ceiling]

/-- R30: the heat summary. -/
def summaryItems (x : HeatSummary) : List Item :=
  [one x.furnace.val, num 2 (x.heatNo.getD 0), one ((x.grade.map Fin.val).getD 0), flag x.tappedOut, num 2 x.mass,
   num 4 x.energyWh, one x.extensions, flag x.overheld]

/-- R182, bytes 23 to 32 of FURNACE REPORT: class, code, subject valid, subject, ladles completed, failing ladle, stamp. -/
def faultBytes : FaultSense → List Byte
  | .none => be 6 0 ++ be 4 0
  | .cooling code src stamp => be 1 1 ++ be 1 code.code ++ be 1 1 ++ be 1 src.code ++ be 2 0 ++ be 4 stamp
  | .supplyFailed u stamp => be 1 2 ++ be 1 0 ++ be 1 1 ++ be 1 u.val ++ be 2 0 ++ be 4 stamp
  | .tap code id done failing stamp =>
    be 1 3 ++ be 1 code.code ++ be 1 1 ++ be 1 id ++ be 1 done ++ be 1 failing ++ be 4 stamp
  | .tempUnknown stamp => be 1 4 ++ be 5 0 ++ be 4 stamp
  | .overheld stamp => be 1 5 ++ be 5 0 ++ be 4 stamp

/-! ## Table entries (R184) -/

def siteItems (e : Site) : List Item :=
  [num 2 e.scanPeriod, num 2 e.alarmStarts.toNat, num 2 e.starvFloor, num 2 e.starvLimit, num 2 e.starvDuration,
   num 2 e.defaultCeiling, num 2 e.baseDraw, num 2 e.dipTolerance, num 2 e.dipAge, num 2 e.autoRotate.toNat]

def supplyItems (e : SupplyCfg) : List Item :=
  [num 2 e.rating, one e.dual, one e.triple, one e.startTime, flag e.noRetry]

def furnaceItems (e : FurnaceCfg) : List Item :=
  [num 2 e.capacity, num 2 e.coil, one e.efficiency, num 2 e.loss, one e.gain, num 2 e.heel, one e.freezeMargin,
   one e.supply.val, one e.channel.val]

def gradeItems (e : GradeCfg) : List Item :=
  [num 2 e.liquidus, num 2 e.hold, num 2 e.tap, one e.bandLow, one e.bandHigh, num 2 e.heat, num 2 e.meltEnergy,
   one e.allowance, one e.extension]

def loopItems (e : LoopCfg) : List Item :=
  [num 2 e.minPressure, one e.minTank, num 2 e.returnDelay, num 2 e.pumpDraw, one e.emergencyCap, one e.lostValve.code]

def circuitItems (e : CircuitCfg) : List Item :=
  [one e.loop.val, one e.target.codes.1, one e.target.codes.2, num 2 e.flowWarn, num 2 e.flowTrip, one e.flowHyst,
   one e.tempWarn, one e.tempTrip, one e.tempHyst, one e.sensing.code, one e.derate]

/-- A configured flag followed by the fields of a configured entry. -/
def flagged {α : Type} (x : Option α) (items : α → List Item) : List Item :=
  match x with
  | some e => flag true :: items e
  | none => [flag false]

def entryItems : TableEntry → List Item
  | .site e => flag true :: siteItems e
  | .supply e => flagged e supplyItems
  | .furnace e => flagged e furnaceItems
  | .grade e => flagged e gradeItems
  | .loop e => flagged e loopItems
  | .circuit e => flagged e circuitItems

/-! ## FURNACE REPORT (R182) -/

/-- R182: the presence mask of FURNACE REPORT. -/
def reportMask (x : FurnaceReport) : Nat :=
  let r := x.record
  bitsOf [r.heatNo.isSome, r.allowance.isSome, r.assigned.isSome, r.bath.required.isSome, r.bath.estimate.isSome,
    r.bath.lastDip.isSome, r.bath.pendingDip.isSome, r.power.starvLeft.isSome, x.supply.isSome]

/-- An optional dip in the six bytes of FURNACE REPORT. -/
def dipField (d : Option Dip) : List Byte := (d.map dipBytes).getD (be 6 0)

/-- R182: the 90 bytes of FURNACE REPORT's reply data. -/
def furnaceReportBytes (x : FurnaceReport) : List Byte :=
  let r := x.record
  let b := r.bath
  let p := r.power
  be 1 x.furnace.val ++ be 1 r.service.code ++ be 1 r.phase.code ++ be 2 (reportMask x) ++ be 2 (r.heatNo.getD 0) ++
  be 1 ((r.grade.map Fin.val).getD 0) ++ be 2 r.mass ++
  be 1 (bitsOf [r.approved, r.overheld, r.freezeRisk, r.tempUnknown, r.tapReady]) ++ be 2 (r.allowance.getD 0) ++
  be 1 r.extensions ++ be 4 r.energyWh ++ be 2 (r.setpoint.getD 0) ++ be 1 (r.assigned.getD 0) ++
  (blockingSet r.blocking).bytes ++ faultBytes r.fault ++
  be 6 (b.required.getD 0) ++ be 6 (b.progress.getD 0) ++ be 4 (b.estimate.getD 0) ++
  be 4 (BitVec.ofInt 32 b.jacc).toNat ++ dipField b.lastDip ++ dipField b.pendingDip ++ be 1 b.disagreements ++
  be 6 b.energyCount ++ be 1 p.setClass.code ++ be 1 p.effClass.code ++ be 2 p.rush ++ be 2 p.starvCounter ++
  be 1 (p.starvLeft.getD 0) ++ be 2 p.demand ++ be 2 p.cap ++ be 2 p.need ++ be 2 p.grant ++ be 2 x.applied ++
  be 1 ((x.supply.map SupplyState.code).getD 0)

/-! ## Reply data (R184) -/

def supplyLineItems (x : SupplyLine) : List Item :=
  [one x.state.code, one x.attempts, num 2 x.rating, one x.energised, one x.fraction, num 2 x.total]

def furnaceLineItems (x : FurnaceLine) : List Item :=
  let p := x.power
  [one p.setClass.code, one p.effClass.code, num 2 p.rush, num 2 p.starvCounter, maybeNum 1 p.starvLeft, num 2 p.demand,
   num 2 p.cap, num 2 p.need, num 2 p.grant, one x.group.code, flag x.zeroForced]

def loopReadingItem (r : Option LoopReading) : Item := maybe 3 r fun r => be 2 r.pressure ++ be 1 r.tank

def loopLineItems (x : LoopLine) : List Item :=
  let r := x.record
  loopItems x.cfg ++
    [loopReadingItem r.reading, one r.primaryFails, one r.tankFails, one r.state.code, one x.valve.code,
     maybeNum 4 r.healthySince, maybeNum 2 x.secondsLeft, flag r.hold, flag r.changed, one r.request.code]

def circuitLineItems (x : CircuitLine) : List Item :=
  let r := x.record
  circuitItems x.cfg ++
    [maybe 4 r.reading fun r => be 2 r.flow ++ be 2 r.temp, one r.misses, one r.condition.code, one r.request.code,
     flag r.transient, flag r.masked]

/-- R148: a tap request record. -/
def tapItems (r : Tap) : List Item :=
  [one r.id, one r.state.code, one r.grades.length, .plain (r.grades.flatMap fun g => be 1 g.val), one r.ladles,
   num 2 r.ladleMass, num 4 r.openAt, num 4 r.closeAt, maybeNum 1 (r.pinned.map Fin.val), flag r.redirected,
   maybeNum 1 (r.assigned.map Fin.val), maybeNum 1 (r.chosen.map Fin.val), flag r.downgraded, one r.done,
   flag r.softStop, flag r.staleSent]

/-- The source, condition and sensing of a source view; a loop has no sensing. -/
def SourceView.codes : SourceView → Nat × Nat × Option Nat
  | .circuit c k x => (c.val, k.code, some x.code)
  | .loop l k => (16 + l.val, k.code, none)

/-- R140: the data of a TRIP POLL reply. DESIGN CHOICE (log entry 43): a loop's sensing is an absent optional field. -/
def pollItems : Option PollAnswer → List Item
  | some a =>
    let (src, k, x) := a.source.codes
    [one a.kind.code, .opt true (be 1 src), .opt true (be 1 a.request.code), .opt true (be 1 k), maybeNum 1 x,
     .opt true (furnaceSet a.affected).bytes, .opt true (furnaceSet a.held).bytes]
  | none => one 2 :: List.replicate 6 (.opt false [0])

/-- R184: the reply data that the owners' rules name, in their order. DESIGN CHOICE (log entry 43): the standby in the reply to
STANDBY SET is an optional field, with a presence mask before it, though it is always present there. -/
def replyItems : ReplyData → List Item
  | .nothing => []
  | .entry e => entryItems e
  | .badConfig t i k => [one t.code, one i, one k.code]
  | .partStatus p up c ceiling lost => [one p.code, num 4 up, clockItem c, num 2 ceiling, flag lost]
  | .heat p m => [one p.code, num 2 m]
  | .charge p m a => [one p.code, num 2 m, num 2 a]
  | .chemistry p m a o e h => [one p.code, num 2 m, flag a, flag o, one e, maybeNum 2 h]
  | .closed p m x => [one p.code, num 2 m] ++ summaryItems x
  | .sense x => [.plain (faultBytes x)]
  | .furnace x => [.plain (furnaceReportBytes x)]
  | .dip o p e d n u => [one o.code, one p.code, maybeNum 4 e, maybe 6 d dipBytes, one n, flag u]
  | .clock c => [one c.weekday, num 2 c.minute, one c.second]
  | .slot x => slotItems x
  | .clash n => [one n.val]
  | .ceiling c b => [num 2 c, num 2 b]
  | .cls a b r => [one a.code, one b.code, num 2 r]
  | .budget x =>
    [one 2, clockItem x.clock, num 2 x.ceiling] ++ originItems x.origin ++ [num 2 x.defaultCeiling, num 2 x.baseDraw] ++
      x.pumps.map (num 2) ++ [num 2 x.draw, num 2 x.site] ++ x.slots.flatMap slotItems
  | .power p us fs =>
    [one 2, one p.val] ++ us.flatMap (flagged · supplyLineItems) ++ fs.flatMap (flagged · furnaceLineItems)
  | .supply k a t => [one k.code, one a, num 2 t]
  | .loopHold k h x => [one k.code, flag h, maybeNum 4 x]
  | .coolingLoops k x ls =>
    [one 3, one k.code, maybe 5 x fun x => be 4 x.uptime ++ be 1 x.cause.code] ++ ls.flatMap (flagged · loopLineItems)
  | .coolingCircuits cs => one 3 :: cs.flatMap (flagged · circuitLineItems)
  | .bottom c => [one c.val]
  | .poll a => pollItems a
  | .tripCleared x r b cs fs => [one x.code, one r.code, one b.val, circuitSet cs, furnaceSet fs]
  | .mask k r fs => [one k.code, one r.code, furnaceSet fs]
  | .tapTaken k o c p => [one k.code, num 4 o, num 4 c, one p]
  | .tapCancelled k f => [one k.code, maybeNum 1 (f.map Fin.val)]
  | .standby f => [maybeNum 1 (f.map Fin.val)]
  | .tapQueue n st m rs =>
    [one 4, one n] ++ st.map (fun f => maybeNum 1 (f.map Fin.val)) ++ [one m.val, one rs.length] ++ rs.flatMap tapItems
  | .tapState k => [one k.code]
  | .notReady b f e => [blockingSet b, one f.val, maybeNum 4 e]
  | .tapStarted i f n m x => [one i, one f.val, one n, num 2 m, num 2 x]
  | .ladle c m d k e => [num 2 c, num 2 m, one d, one k.code, maybeNum 1 (e.map EndCode.code)]
  | .tapEnded d m => [one d, num 2 m]

/-- R174, R177, R182: the frame of a reply. -/
def Reply.frame (r : Reply) : List Byte :=
  frameBytes 0xC0 r.tag
    (be 1 r.status.code ++ [r.kind] ++ be 1 r.lost.toNat ++ be 1 ((r.reason.map Reason.code).getD 0) ++
      dataBytes (replyItems r.data))

/-! ## Notices (R178, R182, R184) -/

/-- A notice as its frame needs it: kind, event code, subject and event data. -/
structure NoticeParts where
  kind : Byte
  event : Nat
  subject : Nat
  data : List Item

/-- R40: event code and data of a HEAT notice. DEDUCED (log entry 36): the causes of DIP_REQUEST, which R56 and R157 name
one each, are coded HELD 0 and STALE 1. -/
def heatParts : HeatEvent → Nat × List Item
  | .phase o n c => (1, [one o.code, one n.code, one c.code])
  | .closed x => (2, summaryItems x)
  | .chemistry a c e h => (3, [flag a, one c.code, one e, maybeNum 2 h])
  | .overheld e => (4, [one e])
  | .service x => (5, [one x.code])
  | .freezeRisk b e t => (6, [flag b, num 4 e, num 4 t])
  | .tempUnknownSet e d => (7, [flag true, num 4 e, maybe 6 d dipBytes])
  | .tempUnknownClear e => (7, [flag false, num 4 e])
  | .dipHeld d e => (8, [one 0, .plain (dipBytes d), num 4 e])
  | .dipStale e t r => (8, [one 1, num 4 e, maybeNum 4 t, one r])

/-- R162, R172: event code and data of a TAP notice. -/
def tapParts : TapEvent → Nat × List Item
  | .assigned y e => (1, [flag y, num 4 (e.getD 0)])
  | .redirected f r => (2, [one f.val, one r.code])
  | .released f b r => (3, [one f.val, blockingSet b, one r.code])
  | .expired f => (4, [maybeNum 1 (f.map Fin.val)])
  | .cancelled k f => (5, [one k.code, maybeNum 1 (f.map Fin.val)])
  | .started p m => (6, [one (portCode p), num 2 m])
  | .ladle p c m => (7, [num 2 p, num 2 c, num 2 m])
  | .softStop c e => (8, [one c.code, num 4 e])
  | .complete m => (9, [num 2 m])
  | .terminated c n m => (10, [one c.code, maybeNum 1 n, num 2 m])

/-- R93: event code and data of a POWER notice. -/
def powerParts : PowerEvent → Nat × List Item
  | .cls c p => (1, [one c.code, one (portCode p)])
  | .rushEnded => (2, [])
  | .starved f n d => (3, [num 2 f, num 2 n, one d])

/-- R103: event code and data of a SUPPLY notice. -/
def supplyParts : SupplyEvent → Nat × List Item
  | .attemptFailed c k => (1, [one c.code, one k.code])
  | .runLost => (2, [])
  | .failed c n fs => (3, [one c.code, flag n, furnaceSet fs])
  | .reset p => (4, [one (portCode p)])

/-- R146: event code and data of a TRIP notice. DESIGN CHOICE (log entry 43): the circuits withdrawn, which RAISED names for a
loop, are an optional field, absent for a circuit. -/
def tripParts : TripEvent → Nat × List Item
  | .raised c fs cs =>
    (1, [one c.code, furnaceSet fs, .opt (c == .loopLost) (circuitSet cs).bytes])
  | .withdrawn c => (2, [one c.code])
  | .polled k p => (3, [one k.code, one (portCode p)])
  | .cleared p b => (4, [one (portCode p), one b.val])
  | .masked r => (5, [one r.code])
  | .unmasked c => (6, [one c.code])

/-- The parts of a notice. DESIGN CHOICE (log entry 43): what R146 names for a circuit only (sensing, masked flag, transient
mark) is sent for a loop too, as absent optional fields with zeros in their place. -/
def NoticeBody.parts : NoticeBody → NoticeParts
  | .trip n =>
    let (src, k, x) := n.source.codes
    let (e, d) := tripParts n.event
    ⟨0xE1, e, src, [one n.request.code, one k, maybeNum 1 x, .opt x.isSome (be 1 n.masked.toNat),
      .opt x.isSome (be 1 n.transient.toNat), furnaceSet n.affected, furnaceSet n.held] ++ d⟩
  | .loopSupply n =>
    ⟨0xE2, 1, n.loop.val, [one n.old.code, one n.new.code, one n.cause.code, one n.valve.code, loopReadingItem n.reading,
      one n.primaryFails, one n.tankFails, flag n.hold, num 2 n.draw, num 2 n.site, furnaceSet n.furnaces]⟩
  | .readiness n =>
    ⟨0xE3, 1, n.furnace.val, [flag n.ready, blockingSet n.blocking, maybeNum 4 n.estimate, maybeNum 1 n.assigned]⟩
  | .heat n =>
    let (e, d) := heatParts n.event
    ⟨0xE4, e, n.furnace.val, [maybeNum 2 n.heatNo, one n.phase.code] ++ d⟩
  | .tap n =>
    let (e, d) := tapParts n.event
    ⟨0xE5, e, n.id, [one n.state.code, maybeNum 1 (n.pinned.map Fin.val), flag n.redirected,
      maybeNum 1 (n.assigned.map Fin.val), maybeNum 1 (n.chosen.map Fin.val), flag n.downgraded, one n.ladles,
      one n.done] ++ d⟩
  | .power n =>
    let (e, d) := powerParts n.event
    ⟨0xE6, e, n.furnace.val, [one n.setClass.code, one n.effClass.code, num 2 n.rush, num 2 n.grant] ++ d⟩
  | .supply n =>
    let (e, d) := supplyParts n.event
    ⟨0xE7, e, n.supply.val, [one n.state.code, one n.attempts, num 2 n.total] ++ d⟩
  | .ceiling n =>
    ⟨0xE8, 1, 255, [one n.cause.code, num 2 n.ceiling, num 2 n.before] ++ originItems n.origin ++
      [clockItem n.clock, num 2 n.draw, num 2 n.site]⟩

/-- R174, R178, R182: the frame of a notice, with tag 0. -/
def Notice.frame (n : Notice) : List Byte :=
  let p := n.body.parts
  frameBytes p.kind 0 (be 1 p.event ++ be 1 p.subject ++ be 4 n.uptime ++ dataBytes p.data)

end Sys2Proof.Machine
end

