-- ==== Sys2Proof/Machine/Link.lean ====
section
/-! DEFINITION. The link unit's own events (chapter 12): unknown kinds, damaged frames, gaps, and the transmitter. -/

namespace Sys2Proof.Machine

/-! ## Unknown kinds and the frames inside a damaged one (R175, R176) -/

/-- R176: a frame of a kind that is no request kind, on a port whose reply queue is not full. -/
def takeUnknownKind (h : Hdr) (kind : Byte) (s : State) : State :=
  if (Kind.ofCode kind).isSome || 4 ≤ (s.port h.port).replies.length then s
  else s.formReply h kind .refused (some .unknownKind) .nothing

/-- UNKNOWN_KIND (R176). -/
def execUnknownKind (h : Hdr) (kind : Byte) (s : State) : Result := receive h (takeUnknownKind h kind) s

/-- What a frame that has passed its CRC does, by its kind; the part's own events are no frames. -/
def takeFrame : Instr → State → State
  | .siteSetup h a n ps => takeSiteSetup h a n ps
  | .supplySetup h i a b => takeSupplySetup h i a b
  | .furnaceSetup h i a b => takeFurnaceSetup h i a b
  | .gradeSetup h i a b => takeGradeSetup h i a b
  | .loopSetup h i a b => takeLoopSetup h i a b
  | .circuitSetup h i a b => takeCircuitSetup h i a b
  | .commit h => takeCommit h
  | .restart h => takeRestart h
  | .partStatus h => takePartStatus h
  | .tableReport h t i => takeTableReport h t i
  | .serviceOut h f => takeServiceOut h f
  | .serviceIn h f => takeServiceIn h f
  | .openHeat h f n g m => takeOpenHeat h f n g m
  | .declareLiquid h f n g m d => takeDeclareLiquid h f n g m d
  | .declareEmpty h f => takeDeclareEmpty h f
  | .closeHeat h f n => takeCloseHeat h f n
  | .charge h f m => takeCharge h f m
  | .massReport h f m => takeMassReport h f m
  | .chemApprove h f n => takeChemApprove h f n
  | .chemRevoke h f n => takeChemRevoke h f n
  | .sense h f => takeSense h f
  | .furnaceReport h f => takeFurnaceReport h f
  | .dip h f t u => takeDip h f t u
  | .clockSet h d m x => takeClockSet h d m x
  | .scheduleSet h i e d st c => takeScheduleSet h i e d st c
  | .ceilingOverride h c => takeCeilingOverride h c
  | .setClass h f c => takeSetClass h f c
  | .rushAllowance h f x => takeRushAllowance h f x
  | .powerReport h p => takePowerReport h p
  | .supplyReset h u => takeSupplyReset h u
  | .supplyHold h l x => takeSupplyHold h l x
  | .supplyTest h l => takeSupplyTest h l
  | .coolingReport h p => takeCoolingReport h p
  | .tripRotate h c => takeTripRotate h c
  | .tripPoll h => takeTripPoll h
  | .tripClear h c => takeTripClear h c
  | .mask h c => takeMask h c
  | .unmask h c => takeUnmask h c
  | .tapRequest h b => takeTapRequest h b
  | .tapCancel h i => takeTapCancel h i
  | .standbySet h f x => takeStandbySet h f x
  | .standbyClear h f => takeStandbyClear h f
  | .tapQueueReport h p => takeTapQueueReport h p
  | .tapStart h i => takeTapStart h i
  | .ladleDone h i m => takeLadleDone h i m
  | .tapEnd h i => takeTapEnd h i
  | .unknownKind h k => takeUnknownKind h k
  | .powerOn => id
  | .badCrcFrame _ _ => id
  | .interByteTimeout _ => id
  | .transmitStart _ => id
  | .frameSent _ => id
  | .uptimeStep => id
  | .modelInterval _ => id
  | .periodPass => id
  | .scanPeriodExpiry => id
  | .stationStart => id
  | .scanCompletion _ => id
  | .startTimerExpiry _ => id
  | .retryTimerExpiry _ => id
  | .resetHoldTimerExpiry _ => id
  | .resetPulseEnd _ => id
  | .stableRunTimerExpiry _ => id
  | .runningInputChange _ _ => id
  | .faultInputChange _ _ => id
  | .returnDelayExpiry _ => id
  | .openTime _ => id
  | .closeTime _ => id
  | .lengthByteOutOfRange _ _ => id

/-- R174, R175: a length byte and the bytes after it hold a whole frame whose CRC agrees: its command. -/
def goodFrame (port : Port) (n : Byte) (stored : List Byte) : Option Instr :=
  let covered := stored.take n.toNat
  let crc := crc16 (n :: covered)
  match covered with
  | kind :: tag :: body =>
    if (stored.drop n.toNat).take 2 == [hiByte crc, loByte crc] then some (decodeFrame port kind tag body) else none
  | _ => none

/-- R175: a length byte in range. -/
def lengthInRange (n : Byte) : Bool := within 2 200 n.toNat

/-- R175: hunting over bytes already received: the frames found whole, in order, and the state the framer is left in.
`skip` bytes belong to a frame just found. A frame whose CRC disagrees is searched from the byte after its sync byte, and
so is the length byte that is out of range. -/
def huntBytes (port : Port) : Nat → List Byte → List Instr × Framer
  | _, [] => ([], .hunt)
  | skip + 1, _ :: rest => huntBytes port skip rest
  | 0, b :: rest =>
    if b = 0xA5 then
      match rest with
      | [] => ([], .length)
      | n :: stored =>
        if !lengthInRange n then huntBytes port 0 rest
        else if stored.length < n.toNat + 2 then ([], .collect n.toNat stored)
        else match goodFrame port n stored with
          | some i => let x := huntBytes port (n.toNat + 3) rest; (i :: x.1, x.2)
          | none => huntBytes port 0 rest
    else huntBytes port 0 rest

/-- A port's receive framer is left in a state. -/
def State.setFramer (s : State) (p : Port) (x : Framer) : State := s.setPort p { s.port p with framer := x }

/-- R175: a damaged frame is discarded with no reply, and its length byte and stored bytes are searched again; a real frame
found there is handed on. -/
def State.rehunt (s : State) (port : Port) (bytes : List Byte) : State :=
  let x := huntBytes port 0 bytes
  (x.1.foldl (fun t i => takeFrame i t) (s.toHunt port)).setFramer port x.2

/-- R179: the port's driver is enabled: it is sending. -/
def PortUnit.driving (p : PortUnit) : Bool := p.sending.isSome

/-- R175: what bytes on the line do to the part; while the port's own driver is enabled they are not received. -/
def State.receiving (s : State) (port : Port) (take : State → State) : State :=
  if (s.port port).driving then s else take s

/-- BAD_CRC_FRAME (R175). -/
def execBadCrcFrame (port : Port) (bytes : List Byte) (s : State) : Result :=
  .next (s.receiving port fun s => s.rehunt port bytes)

/-- INTER_BYTE_TIMEOUT (R175): a partial frame is discarded. -/
def execInterByteTimeout (port : Port) (s : State) : Result := .next (s.setFramer port .hunt)

/-- R175: a byte received in LENGTH that is no length: hunting resumes with it. Only a framer in LENGTH takes it so. -/
def State.badLength (s : State) (port : Port) (byte : Byte) : State :=
  if (s.port port).framer == .length && !lengthInRange byte then s.setFramer port .hunt else s

/-- LENGTH_BYTE_OUT_OF_RANGE (R175). -/
def execLengthByteOutOfRange (port : Port) (byte : Byte) (s : State) : Result :=
  .next (s.receiving port fun s => s.badLength port byte)

/-! ## The transmitter (R179) -/

/-- R179: the frame that a free transmitter starts: the oldest reply, or else the oldest notice. -/
def PortUnit.nextFrame (p : PortUnit) : Option Sending :=
  match p.replies, p.notices with
  | r :: _, _ => some ⟨.reply, r.frame⟩
  | [], n :: _ => some ⟨.notice, n.frame⟩
  | [], [] => none

/-- R179: a free transmitter starts a frame while the framer is in HUNT. -/
def PortUnit.startFrame (p : PortUnit) : PortUnit :=
  if p.sending.isNone && p.framer == .hunt then { p with sending := p.nextFrame } else p

/-- TRANSMIT_START (R179). -/
def execTransmitStart (port : Port) (s : State) : Result := .next (s.setPort port (s.port port).startFrame)

/-- R177, R178, R179: the last byte of the frame has been sent: it leaves its queue and the transmitter is free. -/
def PortUnit.endFrame (p : PortUnit) : PortUnit :=
  match p.sending with
  | some ⟨.reply, _⟩ => { p with replies := p.replies.drop 1, sending := none }
  | some ⟨.notice, _⟩ => { p with notices := p.notices.drop 1, sending := none }
  | none => p

/-- FRAME_SENT (R179). -/
def execFrameSent (port : Port) (s : State) : Result := .next (s.setPort port (s.port port).endFrame)

end Sys2Proof.Machine
end

