-- ==== Sys2Proof/Machine/Dispatch.lean ====
section
/-! DEFINITION. One arm for every command. -/

namespace Sys2Proof.Machine

def exec (i : Instr) (s : State) : Host.Outcome State Fault Refusal :=
  match i with
  | .powerOn => Sys2Proof.Machine.execPowerOn s
  | .siteSetup h a n ps => Sys2Proof.Machine.execSiteSetup h a n ps s
  | .supplySetup h j a b => Sys2Proof.Machine.execSupplySetup h j a b s
  | .furnaceSetup h j a b => Sys2Proof.Machine.execFurnaceSetup h j a b s
  | .gradeSetup h j a b => Sys2Proof.Machine.execGradeSetup h j a b s
  | .loopSetup h j a b => Sys2Proof.Machine.execLoopSetup h j a b s
  | .circuitSetup h j a b => Sys2Proof.Machine.execCircuitSetup h j a b s
  | .commit h => Sys2Proof.Machine.execCommit h s
  | .restart h => Sys2Proof.Machine.execRestart h s
  | .partStatus h => Sys2Proof.Machine.execPartStatus h s
  | .tableReport h t j => Sys2Proof.Machine.execTableReport h t j s
  | .serviceOut h f => Sys2Proof.Machine.execServiceOut h f s
  | .serviceIn h f => Sys2Proof.Machine.execServiceIn h f s
  | .openHeat h f n g m => Sys2Proof.Machine.execOpenHeat h f n g m s
  | .declareLiquid h f n g m d => Sys2Proof.Machine.execDeclareLiquid h f n g m d s
  | .declareEmpty h f => Sys2Proof.Machine.execDeclareEmpty h f s
  | .closeHeat h f n => Sys2Proof.Machine.execCloseHeat h f n s
  | .charge h f m => Sys2Proof.Machine.execCharge h f m s
  | .massReport h f m => Sys2Proof.Machine.execMassReport h f m s
  | .chemApprove h f n => Sys2Proof.Machine.execChemApprove h f n s
  | .chemRevoke h f n => Sys2Proof.Machine.execChemRevoke h f n s
  | .sense h f => Sys2Proof.Machine.execSense h f s
  | .furnaceReport h f => Sys2Proof.Machine.execFurnaceReport h f s
  | .dip h f t u => Sys2Proof.Machine.execDip h f t u s
  | .clockSet h d m x => Sys2Proof.Machine.execClockSet h d m x s
  | .scheduleSet h j e d st c => Sys2Proof.Machine.execScheduleSet h j e d st c s
  | .ceilingOverride h c => Sys2Proof.Machine.execCeilingOverride h c s
  | .setClass h f c => Sys2Proof.Machine.execSetClass h f c s
  | .rushAllowance h f x => Sys2Proof.Machine.execRushAllowance h f x s
  | .powerReport h p => Sys2Proof.Machine.execPowerReport h p s
  | .supplyReset h u => Sys2Proof.Machine.execSupplyReset h u s
  | .supplyHold h l x => Sys2Proof.Machine.execSupplyHold h l x s
  | .supplyTest h l => Sys2Proof.Machine.execSupplyTest h l s
  | .coolingReport h p => Sys2Proof.Machine.execCoolingReport h p s
  | .tripRotate h c => Sys2Proof.Machine.execTripRotate h c s
  | .tripPoll h => Sys2Proof.Machine.execTripPoll h s
  | .tripClear h c => Sys2Proof.Machine.execTripClear h c s
  | .mask h c => Sys2Proof.Machine.execMask h c s
  | .unmask h c => Sys2Proof.Machine.execUnmask h c s
  | .tapRequest h b => Sys2Proof.Machine.execTapRequest h b s
  | .tapCancel h j => Sys2Proof.Machine.execTapCancel h j s
  | .standbySet h f x => Sys2Proof.Machine.execStandbySet h f x s
  | .standbyClear h f => Sys2Proof.Machine.execStandbyClear h f s
  | .tapQueueReport h p => Sys2Proof.Machine.execTapQueueReport h p s
  | .tapStart h j => Sys2Proof.Machine.execTapStart h j s
  | .ladleDone h j m => Sys2Proof.Machine.execLadleDone h j m s
  | .tapEnd h j => Sys2Proof.Machine.execTapEnd h j s
  | .unknownKind h k => Sys2Proof.Machine.execUnknownKind h k s
  | .badCrcFrame p bs => Sys2Proof.Machine.execBadCrcFrame p bs s
  | .interByteTimeout p => Sys2Proof.Machine.execInterByteTimeout p s
  | .transmitStart p => Sys2Proof.Machine.execTransmitStart p s
  | .frameSent p => Sys2Proof.Machine.execFrameSent p s
  | .uptimeStep => Sys2Proof.Machine.execUptimeStep s
  | .modelInterval f => Sys2Proof.Machine.execModelInterval f s
  | .periodPass => Sys2Proof.Machine.execPeriodPass s
  | .scanPeriodExpiry => Sys2Proof.Machine.execScanPeriodExpiry s
  | .stationStart => Sys2Proof.Machine.execStationStart s
  | .scanCompletion x => Sys2Proof.Machine.execScanCompletion x s
  | .startTimerExpiry u => Sys2Proof.Machine.execStartTimerExpiry u s
  | .retryTimerExpiry u => Sys2Proof.Machine.execRetryTimerExpiry u s
  | .resetHoldTimerExpiry u => Sys2Proof.Machine.execResetHoldTimerExpiry u s
  | .resetPulseEnd u => Sys2Proof.Machine.execResetPulseEnd u s
  | .stableRunTimerExpiry u => Sys2Proof.Machine.execStableRunTimerExpiry u s
  | .runningInputChange u b => Sys2Proof.Machine.execRunningInputChange u b s
  | .faultInputChange u b => Sys2Proof.Machine.execFaultInputChange u b s
  | .returnDelayExpiry l => Sys2Proof.Machine.execReturnDelayExpiry l s
  | .openTime j => Sys2Proof.Machine.execOpenTime j s
  | .closeTime j => Sys2Proof.Machine.execCloseTime j s
  | .lengthByteOutOfRange p b => Sys2Proof.Machine.execLengthByteOutOfRange p b s

end Sys2Proof.Machine
end

