-- ==== Sys2Proof/Machine/Step.lean ====
section
/-! DEFINITION. One step: the command at the front of the queue. -/

namespace Sys2Proof.Machine

/-- The queue of commands that wait takes a new value. -/
def State.withPending (s : State) (l : List Instr) : State := { s with pending := l }

/-- The command at the front of the queue is taken, with the rest left waiting; on an empty queue the part idles (log
entry 2). -/
def step (s : State) : Host.Outcome State Fault Refusal :=
  match s.pending with
  | [] => .next s
  | c :: rest => exec c (s.withPending rest)

/-- The host's question: the state with the command that a word spells at the front of its queue. The opcode table gives
no row any bits, so no word spells one and the state is unchanged (log entry 33). -/
def State.withFetchWord (s : State) (nbits w : Nat) : State :=
  match decodeTableWord nbits w with
  | some c => s.withPending (c :: s.pending)
  | none => s

end Sys2Proof.Machine
end

