-- ==== Sys2Proof/Safety.lean ====
section
/-! DEFINITION. The terms the statements are written in: when a request is handed to its owner (R176), a state with one
more reply in a queue (R177), the frames of the part's shared operations, and what every step keeps. -/

namespace Sys2Proof

/-- The other port. -/
def Port.other : Port → Port
  | .sup => .deck
  | .deck => .sup

/-- The commands that set up the plant description, those that empty it, and a damaged frame, whose stored bytes may hold
such a request (R2, R15, R175). -/
def Instr.mayChangeTables : Instr → Bool
  | .siteSetup .. | .supplySetup .. | .furnaceSetup .. | .gradeSetup .. | .loopSetup .. | .circuitSetup .. => true
  | .powerOn | .badCrcFrame .. => true
  | _ => false

/-- The commands that set the part state (R11), and a damaged frame, whose stored bytes may hold such a request. -/
def Instr.mayChangePart : Instr → Bool
  | .commit .. | .restart .. | .powerOn | .badCrcFrame .. => true
  | _ => false

/-- R11: the requests that are refused in CONFIGURING. -/
def Kind.runningOnly : Kind → Bool
  | .openHeat | .declareLiquid | .declareEmpty | .charge | .closeHeat | .massReport | .dip => true
  | .chemApprove | .chemRevoke | .serviceOut | .serviceIn | .setClass | .rushAllowance => true
  | .tapRequest | .tapCancel | .standbySet | .standbyClear | .tapStart | .ladleDone | .tapEnd => true
  | .siteSetup | .supplySetup | .furnaceSetup | .gradeSetup | .loopSetup | .circuitSetup | .commit | .restart => false
  | .clockSet | .scheduleSet | .ceilingOverride | .supplyReset | .supplyHold | .supplyTest => false
  | .tripPoll | .tripClear | .tripRotate | .mask | .unmask => false
  | .partStatus | .tableReport | .furnaceReport | .sense | .powerReport | .coolingReport | .tapQueueReport => false

end Sys2Proof

namespace Sys2Proof.Machine

/-! ## Requests -/

/-- R176: a request of kind k with this header passes the first, third and fourth check, `len` being the body length that
its layout gives. -/
def State.admits (s : State) (h : Hdr) (k : Kind) (len : Nat) : Prop :=
  (s.port h.port).replies.length < 4 ∧ h.len = len ∧ k.permitted h.port = true

/-- R175, R177: the state with the framer of the request's port in HUNT and the reply at the tail of that port's reply
queue. -/
def State.answered (s : State) (h : Hdr) (k : Kind) (status : Status) (reason : Option Reason) (data : ReplyData) :
    State :=
  (s.toHunt h.port).formReply h k.code status reason data

/-- R177: a taken request, whose values were clamped where `cut` holds. -/
def takenStatus (cut : Bool) : Status := if cut then .adjusted else .ok

/-- The state without what the link unit holds. -/
def State.plant (s : State) : State := { s with sup := PortUnit.fresh, deck := PortUnit.fresh }

/-- R183: the body length that the layout of a request's kind gives, with the action and count bytes of the request. -/
def layoutLength : Instr → Option Nat
  | .siteSetup _ _ n _ => some (2 + 3 * n.toNat)
  | .supplySetup _ _ a _ => some (if a = 0 then 9 else 2)
  | .furnaceSetup _ _ a _ => some (if a = 0 then 15 else 2)
  | .gradeSetup _ _ a _ => some (if a = 0 then 16 else 2)
  | .loopSetup _ _ a _ => some (if a = 0 then 11 else 2)
  | .circuitSetup _ _ a _ => some (if a = 0 then 15 else 2)
  | .commit _ | .restart _ | .tripPoll _ | .partStatus _ => some 0
  | .openHeat .. => some 6
  | .declareLiquid .. => some 8
  | .declareEmpty .. | .serviceOut .. | .serviceIn .. | .furnaceReport .. | .sense .. => some 1
  | .charge .. | .massReport .. => some 3
  | .closeHeat .. | .chemApprove .. | .chemRevoke .. => some 3
  | .dip .. => some 4
  | .clockSet .. => some 4
  | .scheduleSet .. => some 7
  | .ceilingOverride .. => some 2
  | .setClass .. => some 2
  | .rushAllowance .. => some 3
  | .supplyReset .. => some 1
  | .supplyHold .. => some 2
  | .supplyTest .. => some 1
  | .tripClear .. | .tripRotate .. | .mask .. | .unmask .. => some 1
  | .tapRequest .. => some 14
  | .tapCancel .. | .tapStart .. | .tapEnd .. => some 1
  | .standbySet .. => some 2
  | .standbyClear .. => some 1
  | .ladleDone .. => some 3
  | .tableReport .. => some 2
  | .powerReport .. | .coolingReport .. | .tapQueueReport .. => some 1
  | .powerOn | .unknownKind .. | .badCrcFrame .. | .interByteTimeout .. | .transmitStart .. | .frameSent .. => none
  | .uptimeStep | .modelInterval .. | .periodPass | .scanPeriodExpiry | .stationStart | .scanCompletion .. => none
  | .startTimerExpiry .. | .retryTimerExpiry .. | .resetHoldTimerExpiry .. | .resetPulseEnd .. => none
  | .stableRunTimerExpiry .. | .runningInputChange .. | .faultInputChange .. | .returnDelayExpiry .. => none
  | .openTime .. | .closeTime .. | .lengthByteOutOfRange .. => none

/-! ## Frames -/

/-- Between s and t nothing has changed but furnace records, supplies, the tap queue, the matcher pointer and what the
link unit holds: the most that a change handed to the tap scheduler reaches (R158). -/
structure SchedulerOnly (s t : State) : Prop where
  part : t.part = s.part
  tables : t.tables = s.tables
  uptime : t.uptime = s.uptime
  budget : t.budget = s.budget
  modelTimers : t.modelTimers = s.modelTimers
  rotation : t.rotation = s.rotation
  floor : t.floor = s.floor
  periodTimer : t.periodTimer = s.periodTimer
  inputs : t.inputs = s.inputs
  line : t.line = s.line
  scanTimer : t.scanTimer = s.scanTimer
  lastScan : t.lastScan = s.lastScan
  circuits : t.circuits = s.circuits
  loops : t.loops = s.loops
  valves : t.valves = s.valves
  bottom : t.bottom = s.bottom
  held : t.held = s.held
  standby : t.standby = s.standby
  freeCount : t.freeCount = s.freeCount
  pending : t.pending = s.pending

/-- What an event inside the part does to a port: notices may join its queue or be lost, and nothing else (R178). -/
structure PortKeeps (p q : PortUnit) : Prop where
  framer : q.framer = p.framer
  replies : q.replies = p.replies
  sending : q.sending = p.sending
  notices : p.notices <+: q.notices
  bound : p.notices.length ≤ 24 → q.notices.length ≤ 24
  lost : p.lost = true → q.lost = true

/-- What the tap scheduler and a reduction pass leave of a furnace record: heat, chemistry, bath, fault sense, class,
allowance and starvation are kept, no grant rises, and a HOLDING furnace may go to SUPERHEAT for a tap (R160). What they
may change besides is the assigned request, the setpoint and effective class that follow it, readiness, and the figures
demand, cap and need. -/
structure Bystander (r q : Furnace) : Prop where
  service : q.service = r.service
  heatNo : q.heatNo = r.heatNo
  grade : q.grade = r.grade
  mass : q.mass = r.mass
  approved : q.approved = r.approved
  allowance : q.allowance = r.allowance
  extensions : q.extensions = r.extensions
  overheld : q.overheld = r.overheld
  freezeRisk : q.freezeRisk = r.freezeRisk
  tempUnknown : q.tempUnknown = r.tempUnknown
  energyWh : q.energyWh = r.energyWh
  fault : q.fault = r.fault
  bath : q.bath = r.bath
  setClass : q.power.setClass = r.power.setClass
  rush : q.power.rush = r.power.rush
  starvCounter : q.power.starvCounter = r.power.starvCounter
  starvLeft : q.power.starvLeft = r.power.starvLeft
  grant : q.power.grant ≤ r.power.grant
  phase : q.phase = r.phase ∨ (r.phase = .holding ∧ q.phase = .superheat)

/-- What a total that can only fall leaves of a supply: its attempt count, and its state with timer and reset output but
for the drop to IDLE at total 0 (R100). -/
structure SupplyKeeps (r q : Supply) : Prop where
  attempts : q.attempts = r.attempts
  state : (q.state = r.state ∧ q.timer = r.timer ∧ q.resetOut = r.resetOut) ∨
    (r.state.dropsToIdle = true ∧ q.state = .idle ∧ q.timer = none ∧ q.resetOut = false)

/-- What an assignment, a release or a redirection leaves of a record: everything but these fields (R160, R161). -/
def Tap.fixed (r : Tap) : Tap :=
  { r with state := .waiting, pinned := none, redirected := false, assigned := none, chosen := none,
           downgraded := false, staleSent := false }

/-- Between s and t nothing has happened but that the tap scheduler took a change without ending a tap, and a reduction
pass at most. Of the queue, the same records stand in the same order. The ports are not spoken of. -/
structure Scheduled (s t : State) : Prop where
  only : SchedulerOnly s t
  furnaces : ∀ f, Bystander (s.furnace f) (t.furnace f)
  supplies : ∀ u, SupplyKeeps (s.supply u) (t.supply u)
  queue : t.queue.map Tap.fixed = s.queue.map Tap.fixed

/-- R177, R178: what a request leaves of its own port: one more reply at the tail, notices that joined or were lost, and
the framer in HUNT. -/
structure PortAnswered (p q : PortUnit) (r : Reply) : Prop where
  framer : q.framer = .hunt
  replies : q.replies = p.replies ++ [r]
  sending : q.sending = p.sending
  notices : p.notices <+: q.notices
  bound : p.notices.length ≤ 24 → q.notices.length ≤ 24
  lost : p.lost = true → q.lost = true

/-- R177: from s to t the request has been answered with this reply, carrying the notices-lost flag as it stands in t, and
both ports have gained nothing else but notices. The flag is that of t because the reply is formed last (log entry 11). -/
structure Answered (s t : State) (h : Hdr) (k : Kind) (status : Status) (reason : Option Reason) (data : ReplyData) :
    Prop where
  own : PortAnswered (s.port h.port) (t.port h.port)
    ⟨h.tag, k.code, status, reason, (t.port h.port).lost, data⟩
  other : PortKeeps (s.port h.port.other) (t.port h.port.other)

/-- From s to t the ports have gained nothing but notices. -/
structure Noticed (s t : State) : Prop where
  sup : PortKeeps s.sup t.sup
  deck : PortKeeps s.deck t.deck

/-- Between s and t a reduction pass has run at most (R91): grants may have fallen, and the totals handed over may have
taken supplies to IDLE. Nothing else has changed, in the plant or at the ports. -/
structure Reduced (s t : State) : Prop where
  only : SchedulerOnly s t
  queue : t.queue = s.queue
  matcher : t.matcher = s.matcher
  sup : t.sup = s.sup
  deck : t.deck = s.deck
  furnaces : ∀ f, ∃ g, g ≤ (s.furnace f).power.grant ∧
    t.furnace f = { s.furnace f with power := { (s.furnace f).power with grant := g } }
  supplies : ∀ u, SupplyKeeps (s.supply u) (t.supply u)

/-- R69, R91: an event that leads from s to t has lowered B or the cap of a configured furnace. -/
def lowered (s t : State) : Prop :=
  t.budget.site < s.budget.site ∨
    ∃ f, t.configured f = true ∧ (t.furnace f).power.cap < (s.furnace f).power.cap

/-- R91: from s, where all changes of an event have been made, to its end t: where the event has lowered B or a cap in
RUNNING, a reduction pass, which makes each grant the smaller of its value and its figure; otherwise nothing. -/
structure Settles (fell : Prop) (s t : State) : Prop where
  reduced : Reduced s t
  cut : fell → ∀ f, (t.furnace f).power.grant = min (s.furnace f).power.grant (figureIn s.figures f)
  kept : ¬fell → t = s

/-- The smaller grants of R91 where only the ends of an event are known: the figures are those of its end t, which the pass
does not change. -/
def GrantsCut (fell : Prop) (s t : State) (f : FurnaceId) : Prop :=
  (fell → (t.furnace f).power.grant = min (s.furnace f).power.grant (figureIn t.figures f)) ∧
  (¬fell → (t.furnace f).power.grant = (s.furnace f).power.grant)

/-! ## The figures of tier 1 (R83) -/

/-- The furnaces of a group on a supply. -/
def State.groupOn (s : State) (x : Group) (u : SupplyId) : List FurnaceId := (s.furnacesOn u).filter fun f => s.group f == x

/-- The sum of a quantity over the furnaces of a list. -/
def sumOver (l : List FurnaceId) (x : FurnaceId → Nat) : Nat := (l.map x).sum

/-- R83, step 1: what a protected furnace of supply u has after the per-supply scaling. -/
def State.supplyScaled (s : State) (u : SupplyId) (f : FurnaceId) : Nat :=
  let needs := sumOver (s.groupOn .isProtected u) fun g => (s.furnace g).power.need
  if s.ratingOf u < needs then (s.furnace f).power.need * s.ratingOf u / needs else (s.furnace f).power.need

/-- R83, step 2: what it has after the site scaling. -/
def State.siteScaled (s : State) (u : SupplyId) (f : FurnaceId) : Nat :=
  let sum := (supplyIds.map fun v => sumOver (s.groupOn .isProtected v) (s.supplyScaled v)).sum
  if s.budget.site < sum then s.supplyScaled u f * s.budget.site / sum else s.supplyScaled u f

/-! ## What a change does to the furnaces it reaches -/

/-- R132, steps 2 and 3: the trip-held set becomes `now`, and the furnaces that enter it are zeroed. -/
def State.takeHeld (s : State) (now : List FurnaceId) : State :=
  { s with
    held := now
    furnaces := Vector.ofFn fun f =>
      if now.contains f && !s.isHeld f then { s.furnace f with power := (s.furnace f).power.zeroed } else s.furnace f }

/-- R37: the fault sense records of these furnaces are written. -/
def State.withFault (s : State) (fs : List FurnaceId) (e : FaultSense) : State :=
  { s with furnaces := Vector.ofFn fun f => if fs.contains f then { s.furnace f with fault := e } else s.furnace f }

/-- R52: what FREEZE_RISK becomes when an estimate is judged against a threshold. -/
def freezeAfter (risk : Bool) (estimate threshold : Nat) : Bool :=
  if estimate < threshold then true else if threshold + 1000 ≤ estimate then false else risk

/-- R169: the STARTED record on furnace f is soft-stopped by an estimate below its tap band. -/
def State.softStopped (s : State) (f : FurnaceId) (estimate : Nat) : State :=
  { s with
    queue := s.queue.map fun r =>
      if r.assigned = some f ∧ r.state = .started ∧
          estimate < ((r.chosen.bind s.gradeCfg).map GradeCfg.bandBottom).getD 0 then
        { r with softStop := true }
      else r }

/-- R20, R42, R73, column "Heat close", R79: the record of a furnace whose heat has closed. -/
def Furnace.emptied (r : Furnace) : Furnace :=
  { r with phase := .empty, heatNo := none, grade := none, mass := 0, approved := false, allowance := none,
           extensions := 0, overheld := false, freezeRisk := false, tempUnknown := false, energyWh := 0,
           setpoint := none, assigned := none, bath := Bath.fresh
           power := { r.power with effClass := r.power.setClass, starvCounter := 0, starvLeft := none, grant := 0 } }

/-- R171: the record of a furnace whose tap has ended: HOLDING with what is left in it, or emptied. -/
def Furnace.tapped (r : Furnace) : Furnace :=
  if 0 < r.mass then { r with phase := .holding, assigned := none } else r.emptied

/-- R159: furnace f, with a heat of grade g, is the one that record r is matched to: no grade before g in r's list has an
eligible furnace, and of the eligible furnaces of grade g, f comes first by TAP_READY, the higher estimate, and the earlier
position in matcher rotation order. -/
structure Chosen (s : State) (r : Tap) (f : FurnaceId) (g : GradeId) : Prop where
  grade : (s.furnace f).grade = some g
  eligible : s.eligible f r = true
  first : ∀ x, s.eligible x r = true → ∀ k, (s.furnace x).grade = some k → k ∉ r.grades.takeWhile fun y => y != g
  best : ∀ x, s.eligible x r = true → (s.furnace x).grade = some g → x ≠ f →
    let a := s.furnace f
    let b := s.furnace x
    (a.tapReady = true ∧ b.tapReady = false) ∨
    (a.tapReady = b.tapReady ∧
      (b.bath.estimate.getD 0 < a.bath.estimate.getD 0 ∨
        (b.bath.estimate.getD 0 = a.bath.estimate.getD 0 ∧ (f - s.matcher).val < (x - s.matcher).val)))

/-- R160: from s to t record r has been assigned to furnace f, whose heat is of grade g, with the TAP notice of this event
first among what the ports gain. The record's pin and redirected flag are as given. -/
structure Assigns (s t : State) (r : Tap) (f : FurnaceId) (g : GradeId) (pin : Option FurnaceId) (redirected : Bool)
    (event : TapEvent) : Prop where
  scheduled : Scheduled s t
  record : ∃ stale, t.queue = s.queue.map fun q =>
    if q.id = r.id then
      { r with state := .assigned, pinned := pin, redirected := redirected, assigned := some f, chosen := some g,
               downgraded := r.downgrades (some g), staleSent := stale }
    else q
  names : (t.furnace f).assigned = some r.id
  boosted : (t.furnace f).power.effClass = (s.furnace f).power.setClass.boost true
  setpoint : (t.furnace f).setpoint = (s.gradeCfg g).map (·.tap)
  phase : ∀ k, s.gradeCfg g = some k → ∀ e, (s.furnace f).bath.estimate = some e →
    (t.furnace f).phase =
      if (s.furnace f).phase = .holding ∧ e < (k.tap - k.bandLow) * 100 then .superheat else (s.furnace f).phase
  noticed : Noticed
    (s.notify (.tap ⟨r.id, .assigned, pin, redirected, some f, some g, r.downgrades (some g), r.ladles, r.done, event⟩)) t

/-- R161, steps 1 and 2: from s to t furnace f has lost its assigned request: its setpoint is its grade's hold temperature
again, and its effective class its set class. -/
structure Parted (s t : State) (f : FurnaceId) : Prop where
  assigned : (t.furnace f).assigned = none
  effClass : (t.furnace f).power.effClass = (s.furnace f).power.setClass
  setpoint : (t.furnace f).setpoint = if (s.furnace f).phase.hasHeat then (s.heatGrade f).map (·.hold) else none

/-- R3: the refusals of a setup request in their order; `fields` are whether what it names is idle, whether no request
stands over a removed entry, and the tables as they would stand. -/
def refusesSetup (i : Instr) (s : State) (h : Hdr) (k : Kind) (fields : Option (Bool × Bool × Tables)) : Prop :=
  (fields = none → exec i s = .next (s.answered h k .refused (some .badField) .nothing)) ∧
  ∀ (idle removable : Bool) (next : Tables), fields = some (idle, removable, next) →
    (removable = false ∨ (s.part = .running ∧ idle = false) →
      exec i s = .next (s.answered h k .refused (some .wrongState) .nothing)) ∧
    (removable = true → s.part = .running → idle = true → ∀ t n e, next.firstFailure = some (t, n, e) →
      exec i s = .next (s.answered h k .refused (some .badConfig) (.badConfig t n e)))

/-- R24, steps 2 to 4: the refusals of a heat or service request that passes the link unit's checks in RUNNING; `fields` says
whether its fields but the furnace are in range, `named` whether a grade that it names is configured, and `takes` whether the
furnace's service state and phase take it. -/
def refusesHeat (i : Instr) (s : State) (h : Hdr) (k : Kind) (len : Nat) (fb : Byte) (fields named : Prop)
    (takes : Furnace → Prop) : Prop :=
  let refused (e : Reason) : Prop := exec i s = .next (s.answered h k .refused (some e) .nothing)
  s.admits h k len → s.part = .running →
    (6 ≤ fb.toNat ∨ ¬fields → refused .badField) ∧
    ∀ f, finOf 6 fb = some f → fields →
      (s.configured f = false ∨ ¬named → refused .noSuch) ∧
      (s.configured f = true → named → ¬takes (s.furnace f) → refused .wrongState)

/-- The phases with a heat (R19). -/
def Furnace.heats (r : Furnace) : Prop :=
  r.phase = .melting ∨ r.phase = .superheat ∨ r.phase = .holding ∨ r.phase = .tapping

/-- The phases in which CLOSE HEAT, CHARGE and MASS REPORT are taken (R30, R31, R32). -/
def Furnace.worked (r : Furnace) : Prop := r.phase = .melting ∨ r.phase = .superheat ∨ r.phase = .holding

/-- R144: a setup request whose tables stand in s unmasks circuit c, which affects a furnace that holds metal. -/
def State.unmasks (s : State) (c : CircuitId) : Bool :=
  (s.circuit c).masked && (s.affectedBy c).any fun f => (s.furnace f).phase != .empty

/-- R138, R144: a circuit that a setup request unmasks raises. -/
def State.unmaskRaises (s : State) (c : CircuitId) : Bool :=
  s.unmasks c && (s.circuit c).condition.bad && (s.circuit c).request == .none && s.loopFree c

/-- R136: the code of a circuit that raises. -/
def State.raiseCode (s : State) (c : CircuitId) : CoolingCode :=
  if (s.circuit c).condition = .lost then .circuitLost else .circuitTrip

/-- R144, R146: the notices of the circuits that a setup request unmasks, in ascending order, UNMASKED before RAISED. -/
def State.unmaskNotices (s : State) (held : List FurnaceId) (told : State) : State :=
  (circuitIds.filter s.unmasks).foldl (fun y c =>
    let r := s.circuit c
    let notice (e : TripEvent) (q : Request) (mark : Bool) : NoticeBody :=
      .trip ⟨s.sourceView (.circuit c), e, q, false, mark, s.affectedBy c, held⟩
    let z := y.notify (notice (.unmasked .setup) r.request r.transient)
    if s.unmaskRaises c then
      z.notify (notice (.raised (s.raiseCode c) ((s.affectedBy c).filter fun f => !s.isHeld f) []) .pending false)
    else z) told

/-- R133, R136, R144: t is what a setup request whose tables stand in s leaves of the circuits, the trip-held set, and the
fault sense records that the raises write, the highest circuit's standing last. -/
structure SetupUnmasks (s t : State) : Prop where
  circuits : ∀ c, t.circuit c =
    if s.unmaskRaises c then { s.circuit c with masked := false, request := .pending, transient := false }
    else if s.unmasks c then { s.circuit c with masked := false }
    else s.circuit c
  held : t.held = t.heldNow
  fault : ∀ f c, s.unmaskRaises c = true → s.affects c f = true → f ∉ s.held →
    (∀ d, c < d → s.unmaskRaises d = true → s.affects d f = false) →
    (∀ r ∈ s.queue, r.assigned = some f → r.state ≠ .started) →
    (t.furnace f).fault = .cooling (s.raiseCode c) (.circuit c) s.uptime

/-- R99, R101: what a failed attempt of a configured supply leaves, by the count it reaches and the no-retry option. -/
def attemptFails (s : State) (u : SupplyId) (k : SupplyCfg) (cause : FailCause) (t : State) : Prop :=
  let r := s.supply u
  let n := r.attempts + 1
  (k.noRetry = false → n < 4 →
    t = (s.setSupply u { r with attempts := n, state := .retryWait, timer := some ⟨.retry, 2⟩ }).notify
      (.supply ⟨u, .retryWait, n, r.total, .attemptFailed cause r.state⟩)) ∧
  (k.noRetry = false → n = 4 →
    t = (s.setSupply u { r with attempts := n, state := .resetting, timer := some ⟨.resetHold, 5⟩, resetOut := true }).notify
      (.supply ⟨u, .resetting, n, r.total, .attemptFailed cause r.state⟩)) ∧
  (k.noRetry = true ∨ 5 ≤ n →
    let failed := s.setSupply u { state := .failed, attempts := n, total := 0, timer := none, resetOut := false }
    let zeroed : State :=
      { failed with
        furnaces := Vector.ofFn fun f =>
          if (s.furnacesOn u).contains f then { s.furnace f with power := (s.furnace f).power.zeroed } else s.furnace f }
    Scheduled (zeroed.withFault (s.furnacesOn u) (.supplyFailed u s.uptime)) t ∧
    Noticed (s.notify (.supply ⟨u, .failed, n, 0, .failed cause k.noRetry (s.furnacesOn u)⟩)) t)

/-! ## The tables (R10) -/

/-- R10, check 5: what a target names is configured. -/
def Tables.TargetStands (t : Tables) : Target → Prop
  | .furnace f => (t.furnace[f]).isSome = true
  | .supply u => (t.supply[u]).isSome = true
  | .nothing => True

/-- R10: the seven checks hold of every configured entry. -/
structure Tables.Consistent (t : Tables) : Prop where
  supply : ∀ (f : FurnaceId) (c : FurnaceCfg), t.furnace[f] = some c → (t.supply[c.supply]).isSome = true
  channel : ∀ (f g : FurnaceId) (c d : FurnaceCfg), g < f → t.furnace[f] = some c → t.furnace[g] = some d →
    ¬(d.supply = c.supply ∧ d.channel = c.channel)
  grade : ∀ (g : GradeId) (k : GradeCfg), t.grade[g] = some k → k.liquidus < k.hold ∧ k.hold ≤ k.tap ∧ k.tap ≤ 1700
  loop : ∀ (c : CircuitId) (k : CircuitCfg), t.circuit[c] = some k → (t.loop[k.loop]).isSome = true
  target : ∀ (c : CircuitId) (k : CircuitCfg), t.circuit[c] = some k → t.TargetStands k.target
  flow : ∀ (c : CircuitId) (k : CircuitCfg), t.circuit[c] = some k → k.flowTrip < k.flowWarn
  temp : ∀ (c : CircuitId) (k : CircuitCfg), t.circuit[c] = some k → k.tempWarn < k.tempTrip

/-! ## What every step keeps -/

/-- R175, R177, R178, R179: a port holds at most 4 replies and 24 notices, a frame being sent stands in its queue, and the
framer is in HUNT while the driver is enabled. -/
structure PortSound (p : PortUnit) : Prop where
  replies : p.replies.length ≤ 4
  notices : p.notices.length ≤ 24
  sendingReply : ∀ b, p.sending = some ⟨.reply, b⟩ → p.replies ≠ []
  sendingNotice : ∀ b, p.sending = some ⟨.notice, b⟩ → p.notices ≠ []
  driver : p.driving = true → p.framer = .hunt

/-- R119, R125: the valve position that a loop's state calls for; PRIMARY for an unconfigured loop. -/
def State.valveDue (s : State) (l : LoopId) : Valve :=
  match s.loopCfg l with
  | some k => k.valveFor (s.loop l).state
  | none => .primary

/-- R119, R123: every valve output stands at the position of its loop's state, and a return delay timer runs exactly while
healthy-since is present, which it is only in EMERGENCY with the hold flag clear. -/
def LoopsSound (s : State) : Prop :=
  ∀ l : LoopId, s.valves[l] = s.valveDue l ∧
    ((s.loop l).returnTimer.isSome = (s.loop l).healthySince.isSome) ∧
    ((s.loop l).healthySince.isSome = true → (s.loop l).state = .emergency ∧ (s.loop l).hold = false)

/-- R135: a circuit with a transient mark has request state NONE. -/
def MarksSound (s : State) : Prop := ∀ c : CircuitId, (s.circuit c).transient = true → (s.circuit c).request = .none

/-- R77: a furnace's set class is CRITICAL only while its rush allowance is above 0. -/
def RushSound (s : State) : Prop :=
  ∀ f : FurnaceId, (s.furnace f).power.setClass = .critical → 0 < (s.furnace f).power.rush

/-- The invariant of the whole part. -/
structure Sound (s : State) : Prop where
  sup : PortSound s.sup
  deck : PortSound s.deck
  queue : s.queue.length ≤ 16
  loops : LoopsSound s
  marks : MarksSound s
  rush : RushSound s

/-- The invariant of heats and taps (R11, R19, R21, R148, R158, R166, R167): the ids of the queue are distinct; a record is
WAITING, OPEN, ASSIGNED or STARTED and has a furnace in the last two states only; that furnace is configured and names the
record, is TAPPING and not trip-held for a STARTED record, and is SUPERHEAT or HOLDING for an ASSIGNED one; a furnace's
assigned request is in the queue; in CONFIGURING the queue is empty; a RELINE furnace is EMPTY. -/
structure PlantSound (s : State) : Prop where
  ids : s.queue.Pairwise fun q r => q.id ≠ r.id
  state : ∀ r ∈ s.queue, r.state = .waiting ∨ r.state = .opened ∨ r.state = .assigned ∨ r.state = .started
  furnace : ∀ r ∈ s.queue, r.assigned.isSome = true ↔ (r.state = .assigned ∨ r.state = .started)
  names : ∀ r ∈ s.queue, ∀ f, r.assigned = some f → s.configured f = true ∧ (s.furnace f).assigned = some r.id
  started : ∀ r ∈ s.queue, ∀ f, r.assigned = some f → r.state = .started →
    (s.furnace f).phase = .tapping ∧ s.isHeld f = false
  assigned : ∀ r ∈ s.queue, ∀ f, r.assigned = some f → r.state = .assigned →
    (s.furnace f).phase = .superheat ∨ (s.furnace f).phase = .holding
  back : ∀ f id, (s.furnace f).assigned = some id → ∃ r ∈ s.queue, r.id = id ∧ r.assigned = some f
  configuring : s.part = .configuring → s.queue = []
  reline : ∀ f, (s.furnace f).service = .reline → (s.furnace f).phase = .empty

/-- The laws of R87 about the grants: their sum is at most B, their sum on a supply at most its rating, each is at most the
furnace's cap, and is 0 for a zero-forced or unconfigured furnace. The need is at most the cap (R81). -/
structure GrantSound (s : State) : Prop where
  site : (furnaceIds.map fun f => (s.furnace f).power.grant).sum ≤ s.budget.site
  supply : ∀ u, s.grantsOn u ≤ s.ratingOf u
  cap : ∀ f, (s.furnace f).power.grant ≤ (s.furnace f).power.cap
  need : ∀ f, (s.furnace f).power.need ≤ (s.furnace f).power.cap
  zeroForced : ∀ f, s.zeroForced f = true → (s.furnace f).power.grant = 0
  unconfigured : ∀ f, s.configured f = false → (s.furnace f).power.grant = 0

/-- What is computed from other state is, between two steps, what its formula gives: A and B (R68, R69), the trip-held set
(R133), the demand, cap and need of every furnace (R50, R81) and its effective class (R74). In CONFIGURING no furnace has a
heat (R11, R16), and in RUNNING the tables pass the consistency checks (R3, R12). -/
structure DerivedSound (s : State) : Prop where
  draw : s.budget.draw = s.drawNow
  site : s.budget.site = s.budget.ceiling - s.budget.draw
  held : s.held = s.heldNow
  demand : ∀ f, (s.furnace f).power.demand = s.demandOf f
  cap : ∀ f, (s.furnace f).power.cap = s.capOf f
  need : ∀ f, (s.furnace f).power.need = min (s.demandOf f) (s.capOf f)
  effClass : ∀ f, (s.furnace f).power.effClass = (s.furnace f).power.setClass.boost (s.boosted f)
  configuring : s.part = .configuring → ∀ f, (s.furnace f).phase.hasHeat = false
  running : s.part = .running → s.tables.firstFailure = none

/-- What the events inside the part, other than RESTART, setup and a period pass, do to the state: no grant rises (R87),
the tap queue does not grow, the ports gain notices only, and what a furnace, a loop or a circuit must keep is kept. -/
structure Quiet (s t : State) : Prop where
  part : t.part = s.part
  tables : t.tables = s.tables
  uptime : t.uptime = s.uptime
  modelTimers : t.modelTimers = s.modelTimers
  periodTimer : t.periodTimer = s.periodTimer
  inputs : t.inputs = s.inputs
  standby : t.standby = s.standby
  freeCount : t.freeCount = s.freeCount
  pending : t.pending = s.pending
  sup : PortKeeps s.sup t.sup
  deck : PortKeeps s.deck t.deck
  grant : ∀ f, (t.furnace f).power.grant ≤ (s.furnace f).power.grant
  service : ∀ f, (t.furnace f).service = (s.furnace f).service
  setClass : ∀ f, (t.furnace f).power.setClass = (s.furnace f).power.setClass
  rush : ∀ f, (t.furnace f).power.rush = (s.furnace f).power.rush
  queue : t.queue.length ≤ s.queue.length
  loops : LoopsSound s → LoopsSound t
  marks : MarksSound s → MarksSound t

end Sys2Proof.Machine
end

