-- ==== Sys2Proof/Certificates/Slice0/Obligations.lean ====
section
/-! DEFINITION. The statements for the provers. A statement about a request is about a frame that passes the checks of the
link unit (`State.admits`); `Obligations.LinkChecks` says what becomes of the others. Wherever `Answered` or
`State.answered` stands over notices that the owner has sent, the reply carries the notices-lost flag as it is after them:
by R176 the reply is formed when the owner has judged (log entry 11). Wherever a reduction pass runs, its figures take the
starvation floor of the last period pass, which is read from R5 (log entry 42). -/

open Sys2Proof Sys2Proof.Machine

/-! ## The queue of commands and what every command keeps -/

/-- The model's queue of commands (log entry 2): a step takes the command at its front and is that command's effect on the
state with the rest waiting; with nothing waiting the part idles. -/
def Obligations.StepTakesFront : Prop :=
  (∀ (c : Instr) (rest : List Instr) (s : State), step (s.withPending (c :: rest)) = exec c (s.withPending rest)) ∧
  ∀ s : State, step (s.withPending []) = .next (s.withPending [])

/-- No event stops the part: every command answers a next state in every state, and leaves the commands that wait. The queue
of waiting commands is the model's own (log entry 2), and that POWER_ON keeps it is the model's choice (log entry 3). -/
def Obligations.EveryCommandCompletes : Prop :=
  ∀ (c : Instr) (s : State), ∃ t, exec c s = .next t ∧ t.pending = s.pending

/-- Every step keeps the invariant `Sound`: the bounds of the queues, the valves and return delays of the loops, the
transient marks, and CRITICAL only with a rush allowance. -/
def Obligations.SoundKept : Prop := ∀ s t : State, Sound s → step s = .next t → Sound t

/-- Every step keeps the invariant `PlantSound` of heats and taps. -/
def Obligations.PlantSoundKept : Prop := ∀ s t : State, PlantSound s → step s = .next t → PlantSound t

/-- The laws of R87 about the grants, as far as `GrantSound` states them, are kept by every step. -/
def Obligations.GrantSoundKept : Prop := ∀ s t : State, GrantSound s → step s = .next t → GrantSound t

/-- Every step keeps `DerivedSound`, in a state that is `PlantSound`: A and B, the trip-held set, the demands, caps, needs and
effective classes are at all times what their formulas give on the state as it stands. -/
def Obligations.DerivedSoundKept : Prop :=
  ∀ s t : State, PlantSound s → DerivedSound s → step s = .next t → DerivedSound t

/-- The four invariants hold right after power-on. -/
def Obligations.ResetIsSound : Prop :=
  Sound State.reset ∧ PlantSound State.reset ∧ GrantSound State.reset ∧ DerivedSound State.reset

/-- No command but the period pass raises a grant. -/
def Obligations.OnlyPeriodPassRaisesGrants : Prop :=
  ∀ (c : Instr) (s t : State), c ≠ .periodPass → exec c s = .next t →
    ∀ f, (t.furnace f).power.grant ≤ (s.furnace f).power.grant

/-- The figures of R82 to R86 in every state: their three bounds; a protected furnace has the scaled need of tier 1, one in
neither group 0; no working furnace is left short while both B and its supply have room; the first furnace in rotation order
with a starvation grant has its floor as far as tier 2 has it; and where the proportional shares of tier 2 fit everywhere,
each working furnace has its share, or one kW more from the leftover. A reduction pass makes each grant the smaller of its
value and its figure (R91), and every command that lowers B or a cap in RUNNING ends with grants at most the figures; that the
fall of a cap is judged between the event's beginning and its end is the model's choice (log entry 9), and that a reduction
pass waits for the next period pass with a changed starvation floor is read from the spec (log entry 42). -/
def Obligations.FiguresBounded : Prop :=
  (∀ s : State,
    let figure := figureIn s.figures
    let given := sumOver furnaceIds figure
    let left := s.budget.site - (supplyIds.map fun v => sumOver (s.groupOn .isProtected v) figure).sum
    let room (u : SupplyId) := s.ratingOf u - sumOver (s.groupOn .isProtected u) figure
    (∀ f, figure f ≤ (s.furnace f).power.need) ∧
    (∀ u, sumOver (s.furnacesOn u) figure ≤ s.ratingOf u) ∧
    given ≤ s.budget.site ∧
    (∀ f, s.configured f = false ∨ s.group f = .nothing → figure f = 0) ∧
    (∀ u f, f ∈ s.groupOn .isProtected u → figure f = s.siteScaled u f) ∧
    (∀ u f, f ∈ s.groupOn .working u →
      figure f = (s.furnace f).power.need ∨ given = s.budget.site ∨ sumOver (s.furnacesOn u) figure = s.ratingOf u) ∧
    (∀ u f, f ∈ s.groupOn .working u → (s.furnace f).power.starvLeft.isSome = true →
      (∀ v g, g ∈ s.groupOn .working v → (s.furnace g).power.starvLeft.isSome = true → g ≠ f →
        (f - s.rotation).val < (g - s.rotation).val) →
      min (min (s.floorOf f) (s.furnace f).power.need) (min left (room u)) ≤ figure f) ∧
    (let weight (f : FurnaceId) := (s.furnace f).power.effClass.weight
      let all := (supplyIds.map fun v => sumOver (s.groupOn .working v) weight).sum
      let share (f : FurnaceId) := left * weight f / all
      (∀ u f, f ∈ s.groupOn .working u → (s.furnace f).power.starvLeft = none ∧ share f < (s.furnace f).power.need) →
      (∀ u, sumOver (s.groupOn .working u) (fun f => share f + 1) ≤ room u) →
      ∀ u f, f ∈ s.groupOn .working u → share f ≤ figure f ∧ figure f ≤ share f + 1)) ∧
  (∀ (s : State) (f : FurnaceId),
    (s.reductionPass.furnace f).power.grant = min (s.furnace f).power.grant (figureIn s.figures f)) ∧
  ∀ (c : Instr) (s t : State), (∀ p bytes, c ≠ .badCrcFrame p bytes) → exec c s = .next t →
    s.part = .running → t.part = .running → lowered s t → ∀ f, (t.furnace f).power.grant ≤ figureIn t.figures f

/-- Who changes what: the tables change by the setup requests and power-on, the part state by COMMIT, RESTART and
power-on, uptime by its own step and power-on, the starvation floor that the passes use by the period pass and power-on (R5,
log entry 42), and the levels of the input pins by their own changes alone, which is the model's choice for power-on (log
entry 3). A damaged frame may hold any of the requests. -/
def Obligations.OwnersChangeTheirState : Prop :=
  ∀ (c : Instr) (s t : State), exec c s = .next t →
    (c.mayChangeTables = false → t.tables = s.tables) ∧
    (c.mayChangePart = false → t.part = s.part) ∧
    (c ≠ .powerOn → c ≠ .uptimeStep → t.uptime = s.uptime) ∧
    (c ≠ .powerOn → c ≠ .periodPass → t.floor = s.floor) ∧
    ((∀ u b, c ≠ .runningInputChange u b ∧ c ≠ .faultInputChange u b) → t.inputs = s.inputs)

/-! ## The link unit (chapter 12) -/

/-- Decoding the encoding of a request gives the request back, for every kind of the kind code table with every operand. -/
def Obligations.RequestRoundTrip : Prop :=
  ∀ (i : Instr) (h : Hdr) (k : Kind) (body : List Byte), requestBytes i = some (h, k, body) → wellSized i = true →
    decodeFrame h.port k.code h.tag body = i

/-- The bytes of a frame, in their places, and the check value of its CRC. -/
def Obligations.FrameLayout : Prop :=
  (∀ (kind tag : Byte) (body : List Byte), body.length ≤ 198 →
    ∃ n crcHigh crcLow : Byte,
      frameBytes kind tag body = [0xA5, n, kind, tag] ++ body ++ [crcHigh, crcLow] ∧
      n.toNat = body.length + 2 ∧ crcHigh ++ crcLow = crc16 ([n, kind, tag] ++ body)) ∧
  crc16 [0x31, 0x32, 0x33, 0x34, 0x35, 0x36, 0x37, 0x38, 0x39] = 0x29B1

/-- The four checks of R176 on a frame that has passed its CRC. A full reply queue discards it with no reply; a kind byte that
is no request kind is refused with UNKNOWN_KIND; a body of the wrong length with BAD_LENGTH; a kind that the port may not send
with NOT_PERMITTED. In each case nothing else happens but that the framer of the port is in HUNT. -/
def Obligations.LinkChecks : Prop :=
  (∀ (h : Hdr) (kind : Byte) (s : State), Kind.ofCode kind = none →
    ((s.port h.port).replies.length < 4 →
      exec (.unknownKind h kind) s =
        .next ((s.toHunt h.port).formReply h kind .refused (some .unknownKind) .nothing)) ∧
    (4 ≤ (s.port h.port).replies.length → exec (.unknownKind h kind) s = .next (s.toHunt h.port))) ∧
  ∀ (i : Instr) (h : Hdr) (k : Kind) (body : List Byte) (s : State), requestBytes i = some (h, k, body) →
    (4 ≤ (s.port h.port).replies.length → exec i s = .next (s.toHunt h.port)) ∧
    ((s.port h.port).replies.length < 4 → layoutLength i ≠ some h.len →
      exec i s = .next (s.answered h k .refused (some .badLength) .nothing)) ∧
    ((s.port h.port).replies.length < 4 → layoutLength i = some h.len → k.permitted h.port = false →
      exec i s = .next (s.answered h k .refused (some .notPermitted) .nothing))

/-- A request that finds room in its port's reply queue gets exactly one reply, with its tag and kind, at the tail; the
other port's replies are untouched. A refused request changes nothing else, but that a TAP START refused with NOT_READY has
evaluated readiness (R165). -/
def Obligations.OneReplyEach : Prop :=
  ∀ (i : Instr) (h : Hdr) (k : Kind) (body : List Byte) (s : State), requestBytes i = some (h, k, body) →
    (s.port h.port).replies.length < 4 →
    ∃ (t : State) (r : Reply), exec i s = .next t ∧
      (t.port h.port).replies = (s.port h.port).replies ++ [r] ∧ r.tag = h.tag ∧ r.kind = k.code ∧
      (t.port h.port.other).replies = (s.port h.port.other).replies ∧
      (r.status = .refused → r.reason ≠ some .notReady →
        t = (s.toHunt h.port).formReply h k.code .refused r.reason r.data)

/-- A notice that an owner hands over goes to both ports: to the tail of a queue below 24 frames; a full queue loses it and
its port's notices-lost flag is set. Nothing else changes. -/
def Obligations.NoticeQueueing : Prop :=
  ∀ (s : State) (b : NoticeBody),
    (∀ p, (s.port p).notices.length < 24 →
      (s.notify b).port p = { s.port p with notices := (s.port p).notices ++ [⟨s.uptime, b⟩] }) ∧
    (∀ p, 24 ≤ (s.port p).notices.length → (s.notify b).port p = { s.port p with lost := true }) ∧
    (s.notify b).plant = s.plant

/-- The transmitter of a port. TRANSMIT_START: free and with the framer in HUNT it starts the oldest reply, else the
oldest notice; otherwise, or with both queues empty, nothing happens. FRAME_SENT: the frame leaves its queue and the
transmitter is free. -/
def Obligations.Transmitter : Prop :=
  ∀ (p : Port) (s : State),
    ((s.port p).sending = none → (s.port p).framer = .hunt →
      (∀ r rest, (s.port p).replies = r :: rest →
        exec (.transmitStart p) s = .next (s.setPort p { s.port p with sending := some ⟨.reply, r.frame⟩ })) ∧
      (∀ n rest, (s.port p).replies = [] → (s.port p).notices = n :: rest →
        exec (.transmitStart p) s = .next (s.setPort p { s.port p with sending := some ⟨.notice, n.frame⟩ })) ∧
      ((s.port p).replies = [] → (s.port p).notices = [] → exec (.transmitStart p) s = .next s)) ∧
    ((s.port p).sending ≠ none ∨ (s.port p).framer ≠ .hunt → exec (.transmitStart p) s = .next s) ∧
    (∀ b, (s.port p).sending = some ⟨.reply, b⟩ →
      exec (.frameSent p) s =
        .next (s.setPort p { s.port p with sending := none, replies := (s.port p).replies.drop 1 })) ∧
    (∀ b, (s.port p).sending = some ⟨.notice, b⟩ →
      exec (.frameSent p) s =
        .next (s.setPort p { s.port p with sending := none, notices := (s.port p).notices.drop 1 })) ∧
    ((s.port p).sending = none → exec (.frameSent p) s = .next s)

/-- The framer's own events. A gap discards a partial frame and the framer is in HUNT; so does a length byte out of range that
it receives in LENGTH; in another framer state that byte's command has no effect (log entry 19). A damaged frame is discarded
with no reply and its bytes are searched again: with no sync byte among them nothing happens; a whole frame found inside them
is handed on as if it had come by itself. That it is taken in the same step is the model's choice (log entry 18). While the
port's own driver is enabled no byte is received, and neither command has an effect. -/
def Obligations.FramerEvents : Prop :=
  ∀ (p : Port) (s : State),
    exec (.interByteTimeout p) s = .next (s.setPort p { s.port p with framer := .hunt }) ∧
    ((s.port p).sending ≠ none → ∀ (b : Byte) (bytes : List Byte),
      exec (.lengthByteOutOfRange p b) s = .next s ∧ exec (.badCrcFrame p bytes) s = .next s) ∧
    (∀ b, (s.port p).sending = none → (s.port p).framer = .length → lengthByteBad b = true →
      exec (.lengthByteOutOfRange p b) s = .next (s.setPort p { s.port p with framer := .hunt })) ∧
    (∀ b, (s.port p).framer ≠ .length → exec (.lengthByteOutOfRange p b) s = .next s) ∧
    (∀ bytes : List Byte, (s.port p).sending = none → 0xA5 ∉ bytes →
      exec (.badCrcFrame p bytes) s = .next (s.toHunt p)) ∧
    ∀ (before after body : List Byte) (kind tag : Byte), (s.port p).sending = none →
      0xA5 ∉ before → 0xA5 ∉ after → body.length ≤ 198 →
      ∃ t, exec (decodeFrame p kind tag body) s = .next t ∧
        exec (.badCrcFrame p (before ++ frameBytes kind tag body ++ after)) s = .next (t.setFramer p .hunt)

/-! ## Shop tables and commissioning (chapter 1) -/

/-- Power-on: every item of the part has its power-on value, the values that the manual gives among them. That the levels of
the input pins, the commands that wait and the model's own counter are not items of the part is the model's choice (log
entry 3). -/
def Obligations.PowerOn : Prop :=
  (∀ s : State, exec .powerOn s =
    .next { State.reset with inputs := s.inputs, pending := s.pending, freeCount := s.freeCount }) ∧
  State.reset.part = .configuring ∧ State.reset.uptime = 0 ∧
  State.reset.site = ⟨500, true, 10, 60, 20, 5000, 0, 20, 600, false⟩ ∧
  (∀ f, State.reset.furnaceCfg f = none ∧ State.reset.furnace f = Furnace.fresh) ∧
  (∀ u, State.reset.supplyCfg u = none) ∧ (∀ g, State.reset.gradeCfg g = none) ∧
  (∀ l : LoopId, State.reset.loopCfg l = none ∧ State.reset.valves[l] = .primary) ∧ (∀ c, State.reset.circuitCfg c = none) ∧
  State.reset.budget.clock = none ∧ (∀ n : Fin 12, (State.reset.budget.slots[n]).enabled = false) ∧
  State.reset.budget.ceiling = 5000 ∧ State.reset.budget.origin = .default ∧
  State.reset.budget.draw = 0 ∧ State.reset.budget.site = 5000 ∧
  State.reset.rotation = 0 ∧ State.reset.floor = 10 ∧ State.reset.line = .idle ∧ State.reset.lastScan = none ∧
  State.reset.bottom = 15 ∧ State.reset.held = [] ∧ State.reset.queue = [] ∧ (∀ f : FurnaceId, State.reset.standby[f] = none) ∧
  State.reset.matcher = 0 ∧
  ∀ p, (State.reset.port p).framer = .hunt ∧ (State.reset.port p).replies = [] ∧
    (State.reset.port p).notices = [] ∧ (State.reset.port p).lost = false

/-- The consistency checks pass exactly where the seven conditions hold of every configured entry, and the first failure
is a furnace's while one fails, the lowest-numbered; then a grade's; then a circuit's. The checks of one entry stand in the
order of the table, each with its code. -/
def Obligations.ConsistencyOrder : Prop :=
  ∀ t : Tables,
    (t.firstFailure = none ↔ t.Consistent) ∧
    (∀ f e, t.checkFurnace f = some e → (∀ g, g < f → t.checkFurnace g = none) →
      t.firstFailure = some (.furnace, f.val, e)) ∧
    (∀ g e, (∀ f, t.checkFurnace f = none) → t.checkGrade g = some e → (∀ k, k < g → t.checkGrade k = none) →
      t.firstFailure = some (.grade, g.val, e)) ∧
    (∀ c e, (∀ f, t.checkFurnace f = none) → (∀ g, t.checkGrade g = none) → t.checkCircuit c = some e →
      (∀ k, k < c → t.checkCircuit k = none) → t.firstFailure = some (.circuit, c.val, e)) ∧
    (∀ f, t.furnace[f] = none → t.checkFurnace f = none) ∧
    (∀ f c, t.furnace[f] = some c →
      let taken := ∃ g d, g < f ∧ t.furnace[g] = some d ∧ d.supply = c.supply ∧ d.channel = c.channel
      (t.supply[c.supply] = none → t.checkFurnace f = some .noSupply) ∧
      (t.supply[c.supply] ≠ none → taken → t.checkFurnace f = some .channelTaken) ∧
      (t.supply[c.supply] ≠ none → ¬taken → t.checkFurnace f = none)) ∧
    (∀ g, t.grade[g] = none → t.checkGrade g = none) ∧
    (∀ g k, t.grade[g] = some k →
      t.checkGrade g = if k.liquidus < k.hold ∧ k.hold ≤ k.tap ∧ k.tap ≤ 1700 then none else some .gradeOrder) ∧
    (∀ c, t.circuit[c] = none → t.checkCircuit c = none) ∧
    ∀ c k, t.circuit[c] = some k →
      (t.loop[k.loop] = none → t.checkCircuit c = some .noLoop) ∧
      (t.loop[k.loop] ≠ none → ¬t.TargetStands k.target → t.checkCircuit c = some .noTarget) ∧
      (t.loop[k.loop] ≠ none → t.TargetStands k.target →
        t.checkCircuit c =
          if k.flowWarn ≤ k.flowTrip then some .flowOrder else if k.tempTrip ≤ k.tempWarn then some .tempOrder else none)

/-- COMMIT. In CONFIGURING over consistent tables the part becomes RUNNING and nothing else changes; over others the reply
carries the first failure and nothing changes; in RUNNING it is refused. -/
def Obligations.Commit : Prop :=
  ∀ (h : Hdr) (s : State), s.admits h .commit 0 →
    (s.part = .configuring → s.tables.Consistent →
      exec (.commit h) s = .next (({ s with part := .running } : State).answered h .commit .ok none .nothing)) ∧
    (s.part = .configuring → ∀ t i e, s.tables.firstFailure = some (t, i, e) →
      exec (.commit h) s = .next (s.answered h .commit .refused (some .badConfig) (.badConfig t i e))) ∧
    (s.part = .running → exec (.commit h) s = .next (s.answered h .commit .refused (some .wrongState) .nothing))

/-- RESTART: what it sets and what it keeps. Every masked circuit is unmasked, and raises where it stands in TRIP or LOST
with request NONE and no suppressing loop; its raise writes the fault sense records of the furnaces not trip-held before,
the highest circuit's standing last. The ports hold their replies, a notice already being sent, and the RAISED notices. That
the blocking set of a configured furnace is judged on the state after the unmasking is read from the spec (log entry 32),
and that an unconfigured furnace has the empty set is the model's choice (log entry 21). -/
def Obligations.Restart : Prop :=
  ∀ (h : Hdr) (s : State), s.admits h .restart 0 →
    let raises (c : CircuitId) : Bool :=
      (s.circuit c).masked && (s.circuit c).condition.bad && (s.circuit c).request == .none && s.loopFree c
    let code (c : CircuitId) : CoolingCode := if (s.circuit c).condition = .lost then .circuitLost else .circuitTrip
    let writes (c : CircuitId) := (s.affectedBy c).filter fun f => !s.isHeld f
    ∃ t, exec (.restart h) s = .next t ∧
      t.part = .configuring ∧ t.queue = [] ∧ t.budget = { s.budget with origin := .default } ∧
      (∀ u, t.supply u = if (s.supplyCfg u).isSome then ⟨.idle, 0, 0, none, false⟩ else s.supply u) ∧
      (∀ f, (t.furnace f).service = (if s.configured f then (s.furnace f).service else .inService) ∧
        (t.furnace f).phase =
          (if s.configured f && (s.furnace f).service == .reline then .empty else .undeclared) ∧
        (t.furnace f).heatNo = none ∧ (t.furnace f).grade = none ∧ (t.furnace f).mass = 0 ∧
        (t.furnace f).assigned = none ∧ (t.furnace f).setpoint = none ∧ (t.furnace f).approved = false ∧
        (t.furnace f).allowance = none ∧ (t.furnace f).bath = Bath.fresh ∧
        (t.furnace f).power.setClass = .standard ∧ (t.furnace f).power.effClass = .standard ∧
        (t.furnace f).power.rush = 0 ∧
        (t.furnace f).power.starvCounter = 0 ∧ (t.furnace f).power.starvLeft = none ∧
        (t.furnace f).power.grant = 0 ∧ (t.furnace f).extensions = 0 ∧ (t.furnace f).overheld = false ∧
        (t.furnace f).freezeRisk = false ∧ (t.furnace f).tempUnknown = false ∧ (t.furnace f).energyWh = 0 ∧
        (t.furnace f).tapReady = false ∧
        (t.furnace f).blocking = (if s.configured f then t.blockingNow f else [])) ∧
      (∀ c, t.circuit c =
        if raises c then { s.circuit c with masked := false, request := .pending, transient := false }
        else { s.circuit c with masked := false }) ∧
      t.held = t.heldNow ∧
      (∀ f, (∀ c, raises c = true → f ∉ writes c) → (t.furnace f).fault = .none) ∧
      (∀ f c, raises c = true → f ∈ writes c → (∀ d, c < d → raises d = true → f ∉ writes d) →
        (t.furnace f).fault = .cooling (code c) (.circuit c) s.uptime) ∧
      (∀ p, (t.port p).notices =
        ((s.port p).notices.take (if ((s.port p).sending.map (·.queue)) = some .notice then 1 else 0)) ++
          (circuitIds.filter raises).map fun c => ⟨s.uptime, .trip
            ⟨s.sourceView (.circuit c), .raised (code c) (writes c) [], .pending, false, false, s.affectedBy c, t.held⟩⟩) ∧
      t.tables = s.tables ∧ t.uptime = s.uptime ∧ t.loops = s.loops ∧ t.valves = s.valves ∧ t.standby = s.standby ∧
      t.bottom = s.bottom ∧ t.rotation = s.rotation ∧ t.floor = s.floor ∧ t.matcher = s.matcher ∧
      t.modelTimers = s.modelTimers ∧
      t.periodTimer = s.periodTimer ∧ t.scanTimer = s.scanTimer ∧ t.line = s.line ∧ t.lastScan = s.lastScan ∧
      t.inputs = s.inputs ∧
      Answered { s with sup := s.sup.restart, deck := s.deck.restart } t h .restart .ok none .nothing

/-- The ten site parameters: each number with a value in its range writes its field and no other; a value out of range, or a
number above 9, writes nothing; several parameters are written one after the other, in any order alike, and none where one
cannot be. The fields of a DEFINE of the other five tables, with their ranges, and the defaults of a supply's. That bits 5
to 7 of a SUPPLY SETUP mask and the bytes of absent fields are ignored is read from the spec (log entry 20). -/
def Obligations.SiteParameters : Prop :=
  (∀ (e : Site) (v : Half),
    let n := v.toNat
    e.write (0, v) = (if 250 ≤ n ∧ n ≤ 2000 then some { e with scanPeriod := n } else none) ∧
    e.write (1, v) = (if n ≤ 1 then some { e with alarmStarts := n == 1 } else none) ∧
    e.write (2, v) = (if n ≤ 50 then some { e with starvFloor := n } else none) ∧
    e.write (3, v) = (if 10 ≤ n ∧ n ≤ 600 then some { e with starvLimit := n } else none) ∧
    e.write (4, v) = (if 5 ≤ n ∧ n ≤ 120 then some { e with starvDuration := n } else none) ∧
    e.write (5, v) = (if n ≤ 30000 then some { e with defaultCeiling := n } else none) ∧
    e.write (6, v) = (if n ≤ 2000 then some { e with baseDraw := n } else none) ∧
    e.write (7, v) = (if 5 ≤ n ∧ n ≤ 60 then some { e with dipTolerance := n } else none) ∧
    e.write (8, v) = (if 60 ≤ n ∧ n ≤ 1800 then some { e with dipAge := n } else none) ∧
    e.write (9, v) = (if n ≤ 1 then some { e with autoRotate := n == 1 } else none) ∧
    ∀ p : Byte, 10 ≤ p.toNat → e.write (p, v) = none) ∧
  (∀ e : Site,
    e.writeAll [] = some e ∧
    (∀ p d rest, e.write p = some d → e.writeAll (p :: rest) = d.writeAll rest) ∧
    (∀ ps, e.writeAll ps = none ↔ ∃ p ∈ ps, e.write p = none) ∧
    ∀ ps qs, (ps.map (·.1)).Nodup → ps.Perm qs → e.writeAll ps = e.writeAll qs) ∧
  (∀ (b : SupplyBody) (k : SupplyCfg), SupplyBody.read b = some k ↔
    b.mask.getLsbD 0 = true ∧ b.mask.getLsbD 4 = true ∧ k.rating = b.rating.toNat ∧
    k.dual = (if b.mask.getLsbD 1 then b.dual.toNat else 80) ∧
    k.triple = (if b.mask.getLsbD 2 then b.triple.toNat else 60) ∧
    k.startTime = (if b.mask.getLsbD 3 then b.startTime.toNat else 3) ∧
    b.noRetry.toNat = k.noRetry.toNat ∧
    500 ≤ k.rating ∧ k.rating ≤ 12000 ∧ 50 ≤ k.dual ∧ k.dual ≤ 100 ∧ 34 ≤ k.triple ∧ k.triple ≤ 100 ∧
    1 ≤ k.startTime ∧ k.startTime ≤ 10) ∧
  (∀ (b : FurnaceBody) (k : FurnaceCfg), FurnaceBody.read b = some k ↔
    k.capacity = b.capacity.toNat ∧ k.coil = b.coil.toNat ∧ k.efficiency = b.efficiency.toNat ∧ k.loss = b.loss.toNat ∧
    k.gain = b.gain.toNat ∧ k.heel = b.heel.toNat ∧ k.freezeMargin = b.freezeMargin.toNat ∧
    k.supply.val = b.supply.toNat ∧ k.channel.val = b.channel.toNat ∧
    500 ≤ k.capacity ∧ k.capacity ≤ 20000 ∧ 100 ≤ k.coil ∧ k.coil ≤ 10000 ∧ 40 ≤ k.efficiency ∧ k.efficiency ≤ 95 ∧
    k.loss ≤ 500 ∧ k.gain ≤ 50 ∧ k.heel ≤ k.capacity ∧ 10 ≤ k.freezeMargin ∧ k.freezeMargin ≤ 100) ∧
  (∀ (b : GradeBody) (k : GradeCfg), GradeBody.read b = some k ↔
    k = ⟨b.liquidus.toNat, b.hold.toNat, b.tap.toNat, b.bandLow.toNat, b.bandHigh.toNat, b.heat.toNat,
      b.meltEnergy.toNat, b.allowance.toNat, b.extension.toNat⟩ ∧
    1100 ≤ k.liquidus ∧ k.liquidus ≤ 1300 ∧ 1100 ≤ k.hold ∧ k.hold ≤ 1650 ∧ 1100 ≤ k.tap ∧ k.tap ≤ 1700 ∧
    5 ≤ k.bandLow ∧ k.bandLow ≤ 50 ∧ 5 ≤ k.bandHigh ∧ k.bandHigh ≤ 50 ∧ 600 ≤ k.heat ∧ k.heat ≤ 1000 ∧
    250 ≤ k.meltEnergy ∧ k.meltEnergy ≤ 600 ∧ 10 ≤ k.allowance ∧ k.allowance ≤ 240 ∧ 5 ≤ k.extension ∧ k.extension ≤ 60) ∧
  (∀ (b : LoopBody) (k : LoopCfg), LoopBody.read b = some k ↔
    k.minPressure = b.minPressure.toNat ∧ k.minTank = b.minTank.toNat ∧ k.returnDelay = b.returnDelay.toNat ∧
    k.pumpDraw = b.pumpDraw.toNat ∧ k.emergencyCap = b.emergencyCap.toNat ∧
    ((b.lostValve = 0 ∧ k.lostValve = .primary) ∨ (b.lostValve = 1 ∧ k.lostValve = .emergency)) ∧
    50 ≤ k.minPressure ∧ k.minPressure ≤ 1000 ∧ 5 ≤ k.minTank ∧ k.minTank ≤ 100 ∧ 10 ≤ k.returnDelay ∧
    k.returnDelay ≤ 900 ∧ k.pumpDraw ≤ 500 ∧ k.emergencyCap ≤ 100) ∧
  ∀ (b : CircuitBody) (k : CircuitCfg), CircuitBody.read b = some k ↔
    k.loop.val = b.loop.toNat ∧
    ((∃ f, b.targetKind = 0 ∧ f.val = b.targetIndex.toNat ∧ k.target = .furnace f) ∨
      (∃ u, b.targetKind = 1 ∧ u.val = b.targetIndex.toNat ∧ k.target = .supply u) ∨
      (b.targetKind = 2 ∧ b.targetIndex = 0 ∧ k.target = .nothing)) ∧
    k.flowWarn = b.flowWarn.toNat ∧ k.flowTrip = b.flowTrip.toNat ∧ k.flowHyst = b.flowHyst.toNat ∧
    k.tempWarn = b.tempWarn.toNat ∧ k.tempTrip = b.tempTrip.toNat ∧ k.tempHyst = b.tempHyst.toNat ∧
    ((b.sensing = 0 ∧ k.sensing = .latching) ∨ (b.sensing = 1 ∧ k.sensing = .live)) ∧ k.derate = b.derate.toNat ∧
    k.flowWarn ≤ 1000 ∧ k.flowTrip ≤ 1000 ∧ k.flowHyst ≤ 100 ∧ k.tempWarn ≤ 120 ∧ k.tempTrip ≤ 120 ∧ k.tempHyst ≤ 20 ∧
    k.derate ≤ 100

/-- SITE SETUP: the parameters it carries are stored, a new default ceiling comes into force with its notice while the
origin is DEFAULT, A and B are recomputed once, and a reduction pass runs exactly where B falls in RUNNING. That this pass
does not take a starvation floor which the request changes, but leaves it to the next period pass (R5), is read from the
spec (log entry 42). -/
def Obligations.SiteSetup : Prop :=
  ∀ (h : Hdr) (n : Byte) (ps : List (Byte × Half)) (s : State) (e : Site),
    s.admits h .siteSetup (2 + 3 * n.toNat) → 1 ≤ n.toNat → n.toNat ≤ 10 → ps.length = n.toNat →
    (ps.map (·.1)).Nodup → s.site.writeAll ps = some e →
    let carries := (5 : Byte) ∈ ps.map (·.1)
    let moves := carries ∧ s.budget.origin = .default
    let ceiling := if moves then e.defaultCeiling else s.budget.ceiling
    let draw := e.baseDraw + (loopIds.map s.pumpOf).sum
    let stored : State :=
      { s with tables := { s.tables with site := e }
               budget := { s.budget with ceiling := ceiling, draw := draw, site := ceiling - draw } }
    let noticed : State := if moves then
        stored.notify (.ceiling ⟨.default, ceiling, s.budget.ceiling, .default, s.budget.clock, draw, ceiling - draw⟩)
      else stored
    let done := noticed.answered h .siteSetup .ok none (.entry (.site e))
    ∃ t, exec (.siteSetup h 0 n ps) s = .next t ∧ Settles (s.part = .running ∧ ceiling - draw < s.budget.site) done t

/-- SUPPLY SETUP and GRADE SETUP that pass the checks of R3: the entry is stored whole or removed. A supply first defined or
removed is IDLE with attempt count 0; a redefined one keeps its state and count. A first definition or removal changes the
furnaces that circuits targeting the supply affect: masked circuits that now affect metal are unmasked and may raise, with
their notices, and with none of those the trip-held set is recomputed; this is the model's reading of R116 and R133 (log
entry 40). -/
def Obligations.SupplyAndGradeSetup : Prop :=
  (∀ (h : Hdr) (ub action : Byte) (body : Option SupplyBody) (s : State) (u : SupplyId) (a : Action SupplyCfg),
    s.admits h .supplySetup (if action = 0 then 9 else 2) →
    setupAction 2 ub action body SupplyBody.read = some (u, a) → PlantSound s → DerivedSound s →
    (s.part = .configuring ∨
      (s.supplyIdle u = true ∧ ({ s.tables with supply := s.tables.supply.set u a.entry } : Tables).Consistent)) →
    let again := (s.supplyCfg u).isSome = true ∧ a.entry.isSome = true
    let stored : State :=
      { s with tables := { s.tables with supply := s.tables.supply.set u a.entry }
               supplies := s.supplies.set u (if again then s.supply u else Supply.fresh) }
    ∃ t, exec (.supplySetup h ub action body) s = .next t ∧
      t.tables = stored.tables ∧ (t.supply u).state = (stored.supply u).state ∧
      (t.supply u).attempts = (stored.supply u).attempts ∧
      (again → Scheduled stored t) ∧
      (¬again → ∀ c, (t.circuit c).masked = true ↔
        (s.circuit c).masked = true ∧ ∀ g, stored.affects c g = true → (s.furnace g).phase = .empty) ∧
      (¬again → (∀ c g, (s.circuit c).masked = true → stored.affects c g = true → (s.furnace g).phase = .empty) →
        Scheduled (stored.takeHeld stored.heldNow) t) ∧
      (¬again → SetupUnmasks stored t) ∧
      Answered (if again then s else stored.unmaskNotices t.held s) t h .supplySetup .ok none (.entry (.supply a.entry))) ∧
  (∀ (h : Hdr) (gb action : Byte) (body : Option GradeBody) (s : State) (g : GradeId) (a : Action GradeCfg),
    s.admits h .gradeSetup (if action = 0 then 16 else 2) →
    setupAction 16 gb action body GradeBody.read = some (g, a) →
    (s.part = .configuring ∨
      (s.gradeIdle g a.entry.isNone = true ∧
        ({ s.tables with grade := s.tables.grade.set g a.entry } : Tables).Consistent)) →
    exec (.gradeSetup h gb action body) s =
      .next (({ s with tables := { s.tables with grade := s.tables.grade.set g a.entry } } : State).answered h
        .gradeSetup .ok none (.entry (.grade a.entry))))

/-- FURNACE SETUP that passes the checks of R3 for an idle furnace, or in CONFIGURING: the entry is stored whole or removed;
the record of a furnace first defined or removed is new; a removal deletes the standby pairings that name it. Exactly the
masked circuits that now affect a furnace that holds metal are unmasked (log entry 27), each with its UNMASKED notice; one
in TRIP or LOST that no loop suppresses raises, with its RAISED notice and the fault sense records it writes. With no
circuit to unmask, the trip-held set is recomputed and nothing else happens but what follows in the tap scheduler. -/
def Obligations.FurnaceSetup : Prop :=
  ∀ (h : Hdr) (fb action : Byte) (body : Option FurnaceBody) (s : State) (f : FurnaceId) (a : Action FurnaceCfg),
    PlantSound s → s.held = s.heldNow → s.admits h .furnaceSetup (if action = 0 then 15 else 2) →
    setupAction 6 fb action body FurnaceBody.read = some (f, a) →
    let tables : Tables := { s.tables with furnace := s.tables.furnace.set f a.entry }
    (s.part = .configuring ∨ (s.furnaceIdle f a.entry.isNone = true ∧ tables.Consistent)) →
    let stored : State :=
      { s with
        tables := tables
        furnaces := s.furnaces.set f (if (s.furnaceCfg f).isSome && a.entry.isSome then s.furnace f else Furnace.fresh)
        standby := if a.entry.isSome then s.standby
          else Vector.ofFn fun g => if g = f ∨ s.standby[g] = some f then none else s.standby[g] }
    ∃ t, exec (.furnaceSetup h fb action body) s = .next t ∧
      t.tables = tables ∧ t.standby = stored.standby ∧
      (∀ c, (t.circuit c).masked = true ↔
        (s.circuit c).masked = true ∧ ∀ g, stored.affects c g = true → (stored.furnace g).phase = .empty) ∧
      ((∀ c g, (s.circuit c).masked = true → stored.affects c g = true → (stored.furnace g).phase = .empty) →
        Scheduled (stored.takeHeld stored.heldNow) t) ∧
      SetupUnmasks stored t ∧
      Answered (stored.unmaskNotices t.held s) t h .furnaceSetup .ok none (.entry (.furnace a.entry))

/-- LOOP SETUP and CIRCUIT SETUP that pass the checks of R3 and R14: the entry is stored whole or removed, with a new record
for a loop or circuit first defined or removed. A loop's valve takes the position of its state, and A and B follow its pump
draw. A redefined circuit is withdrawn, or raises, as R145 gives, with its notice; then masked circuits that now affect
metal are unmasked and may raise. The trip-held set is recomputed, once for all that the request changes (log entry 27). -/
def Obligations.LoopAndCircuitSetup : Prop :=
  (∀ (h : Hdr) (lb action : Byte) (body : Option LoopBody) (s : State) (l : LoopId) (a : Action LoopCfg),
    PlantSound s → s.held = s.heldNow → s.admits h .loopSetup (if action = 0 then 11 else 2) →
    setupAction 4 lb action body LoopBody.read = some (l, a) →
    let tables : Tables := { s.tables with loop := s.tables.loop.set l a.entry }
    (a.entry.isNone = true → (s.loop l).request = .none) →
    (s.part = .configuring ∨
      ((∀ f, s.loopAffects l f = true → (s.furnace f).phase = .empty) ∧ tables.Consistent)) →
    let kept := (s.loopCfg l).isSome && a.entry.isSome
    let valve := match a.entry with
      | some k => if kept then k.valveFor (s.loop l).state else .primary
      | none => .primary
    let stored : State :=
      { s with tables := tables
               loops := s.loops.set l (if kept then s.loop l else Loop.fresh)
               valves := s.valves.set l valve }
    let draw := s.site.baseDraw + (loopIds.map stored.pumpOf).sum
    ∃ t, exec (.loopSetup h lb action body) s = .next t ∧
      Scheduled { stored with budget := { s.budget with draw := draw, site := s.budget.ceiling - draw }
                              held := stored.heldNow } t ∧
      Answered s t h .loopSetup .ok none (.entry (.loop a.entry))) ∧
  (∀ (h : Hdr) (cb action : Byte) (body : Option CircuitBody) (s : State) (c : CircuitId) (a : Action CircuitCfg),
    PlantSound s → s.held = s.heldNow → s.admits h .circuitSetup (if action = 0 then 15 else 2) →
    setupAction 16 cb action body CircuitBody.read = some (c, a) →
    let tables : Tables := { s.tables with circuit := s.tables.circuit.set c a.entry }
    let r := if (s.circuitCfg c).isSome && a.entry.isSome then s.circuit c else Circuit.fresh
    let stored : State := { s with tables := tables, circuits := s.circuits.set c r }
    (a.entry.isNone = true → (s.circuit c).request = .none) →
    (s.part = .configuring ∨
      ((∀ f, s.affects c f = true ∨ stored.affects c f = true → (s.furnace f).phase = .empty) ∧ tables.Consistent)) →
    let live := a.entry.any fun k => k.sensing == .live
    let raises := r.masked = false ∧ r.request = .none ∧ stored.loopFree c = true ∧ r.condition.bad = true
    let q : Circuit :=
      if r.request = .pending ∧ stored.loopFree c = false then { r with request := .none }
      else if r.request = .pending ∧ live = true ∧ r.condition.bad = false then { r with request := .none, transient := true }
      else if raises then { r with request := .pending, transient := false }
      else r
    let judged : State := { stored with circuits := s.circuits.set c q }
    let written := if raises then (judged.affectedBy c).filter fun f => !s.isHeld f else []
    let notice (held : List FurnaceId) (e : TripEvent) : NoticeBody :=
      .trip ⟨judged.sourceView (.circuit c), e, q.request, r.masked, q.transient, judged.affectedBy c, held⟩
    let told (held : List FurnaceId) : State :=
      if r.request = .pending ∧ stored.loopFree c = false then s.notify (notice held (.withdrawn .loop))
      else if r.request = .pending ∧ live = true ∧ r.condition.bad = false then s.notify (notice held (.withdrawn .condition))
      else if raises then s.notify (notice held (.raised (judged.raiseCode c) written []))
      else s
    ∃ t, exec (.circuitSetup h cb action body) s = .next t ∧
      t.tables = tables ∧
      (∀ d, (t.circuit d).masked = true ↔
        (stored.circuit d).masked = true ∧
          (a.entry.isSome = true → ∀ g, stored.affects d g = true → (s.furnace g).phase = .empty)) ∧
      ((a.entry.isSome = true → ∀ d g, (stored.circuit d).masked = true → stored.affects d g = true →
          (s.furnace g).phase = .empty) →
        Scheduled
          ((judged.takeHeld judged.heldNow).withFault written (.cooling (judged.raiseCode c) (.circuit c) s.uptime)) t) ∧
      (a.entry.isSome = true → SetupUnmasks judged t) ∧
      Answered (if a.entry.isSome then judged.unmaskNotices t.held (told t.held) else s) t h .circuitSetup .ok none
        (.entry (.circuit a.entry)))

/-- The order of a setup request's refusals (R3), for each of the six tables; the requests that are refused in CONFIGURING
whatever their fields (R11), which for those whose rule orders no refusals is the model's choice (log entry 39); and the
idle conditions of R13 for furnaces, supplies and grades. Each refusal leaves everything but its reply as it was. -/
def Obligations.RefusedRequests : Prop :=
  (∀ (h : Hdr) (action n : Byte) (ps : List (Byte × Half)) (s : State), s.admits h .siteSetup (2 + 3 * n.toNat) →
    (action ≠ 0 ∨ n.toNat = 0 ∨ 10 < n.toNat ∨ ¬(ps.map (·.1)).Nodup ∨ s.site.writeAll ps = none) →
    exec (.siteSetup h action n ps) s = .next (s.answered h .siteSetup .refused (some .badField) .nothing)) ∧
  (∀ (h : Hdr) (ib action : Byte) (body : Option SupplyBody) (s : State),
    s.admits h .supplySetup (if action = 0 then 9 else 2) →
    refusesSetup (.supplySetup h ib action body) s h .supplySetup
      ((setupAction 2 ib action body SupplyBody.read).map fun x =>
        (s.supplyIdle x.1, true, { s.tables with supply := s.tables.supply.set x.1 x.2.entry }))) ∧
  (∀ (h : Hdr) (ib action : Byte) (body : Option FurnaceBody) (s : State),
    s.admits h .furnaceSetup (if action = 0 then 15 else 2) →
    refusesSetup (.furnaceSetup h ib action body) s h .furnaceSetup
      ((setupAction 6 ib action body FurnaceBody.read).map fun x =>
        (s.furnaceIdle x.1 x.2.entry.isNone, true, { s.tables with furnace := s.tables.furnace.set x.1 x.2.entry }))) ∧
  (∀ (h : Hdr) (ib action : Byte) (body : Option GradeBody) (s : State),
    s.admits h .gradeSetup (if action = 0 then 16 else 2) →
    refusesSetup (.gradeSetup h ib action body) s h .gradeSetup
      ((setupAction 16 ib action body GradeBody.read).map fun x =>
        (s.gradeIdle x.1 x.2.entry.isNone, true, { s.tables with grade := s.tables.grade.set x.1 x.2.entry }))) ∧
  (∀ (h : Hdr) (ib action : Byte) (body : Option LoopBody) (s : State),
    s.admits h .loopSetup (if action = 0 then 11 else 2) →
    refusesSetup (.loopSetup h ib action body) s h .loopSetup
      ((setupAction 4 ib action body LoopBody.read).map fun x =>
        (decide (∀ f, s.loopAffects x.1 f = true → (s.furnace f).phase = .empty),
          x.2.entry.isSome || decide ((s.loop x.1).request = .none),
          { s.tables with loop := s.tables.loop.set x.1 x.2.entry }))) ∧
  (∀ (h : Hdr) (ib action : Byte) (body : Option CircuitBody) (s : State),
    s.admits h .circuitSetup (if action = 0 then 15 else 2) →
    refusesSetup (.circuitSetup h ib action body) s h .circuitSetup
      ((setupAction 16 ib action body CircuitBody.read).map fun x =>
        let tables : Tables := { s.tables with circuit := s.tables.circuit.set x.1 x.2.entry }
        (decide (∀ f, s.affects x.1 f = true ∨ ({ s with tables := tables } : State).affects x.1 f = true →
            (s.furnace f).phase = .empty),
          x.2.entry.isSome || decide ((s.circuit x.1).request = .none), tables))) ∧
  (∀ (i : Instr) (h : Hdr) (k : Kind) (body : List Byte) (s : State), requestBytes i = some (h, k, body) →
    k.runningOnly = true → s.part = .configuring → (s.port h.port).replies.length < 4 →
    layoutLength i = some h.len → k.permitted h.port = true →
    exec i s = .next (s.answered h k .refused (some .wrongState) .nothing)) ∧
  ∀ s : State,
    (∀ f removing, s.furnaceIdle f removing = true ↔
      (s.furnaceCfg f = none ∨ (s.furnace f).phase = .empty ∨ (s.furnace f).phase = .undeclared) ∧
        (removing = true → ∀ r ∈ s.queue, r.pinned ≠ some f)) ∧
    (∀ u, s.supplyIdle u = true ↔
      s.supplyCfg u = none ∨
        (s.supply u).state = .idle ∧ ∀ f c, s.furnaceCfg f = some c → c.supply = u → (s.furnace f).power.grant = 0) ∧
    ∀ g removing, s.gradeIdle g removing = true ↔
      (∀ f, (s.furnace f).heats → (s.furnace f).grade ≠ some g) ∧ (removing = true → ∀ r ∈ s.queue, g ∉ r.grades)

/-- The seven reports carry the items they name as they stand, and change nothing but this: PART STATUS clears its port's
notices-lost flag, after its reply has carried it; COOLING REPORT part 0 clears the changed flags of the configured loops.
That part 0 also uses up a free value for the seconds left is the model's choice (log entry 7). A table, index, furnace or
part out of range is refused with BAD_FIELD, an unconfigured furnace with NO_SUCH. The applied reference that FURNACE REPORT
shows is the grant while the supply drives references, and it is what the furnace's channel carries, with full scale at the
coil rating (R96). -/
def Obligations.Reports : Prop :=
  ∀ (h : Hdr) (s : State),
    (s.admits h .partStatus 0 →
      let t := s.answered h .partStatus .ok none
        (.partStatus s.part s.uptime s.budget.clock s.budget.ceiling (s.port h.port).lost)
      exec (.partStatus h) s = .next (t.setPort h.port { t.port h.port with lost := false })) ∧
    (s.admits h .tableReport 2 → ∀ index : Byte,
      let answers (table : Byte) (e : TableEntry) : Prop :=
        exec (.tableReport h table index) s = .next (s.answered h .tableReport .ok none (.entry e))
      answers 0 (.site s.site) ∧
      (∀ f, finOf 6 index = some f → answers 1 (.furnace (s.furnaceCfg f))) ∧
      (∀ u, finOf 2 index = some u → answers 2 (.supply (s.supplyCfg u))) ∧
      (∀ g, finOf 16 index = some g → answers 3 (.grade (s.gradeCfg g)) ∧ answers 5 (.circuit (s.circuitCfg g))) ∧
      (∀ l, finOf 4 index = some l → answers 4 (.loop (s.loopCfg l))) ∧
      ∀ table : Byte, (6 ≤ table.toNat ∨ (table = 1 ∧ 6 ≤ index.toNat) ∨ (table = 2 ∧ 2 ≤ index.toNat) ∨
          ((table = 3 ∨ table = 5) ∧ 16 ≤ index.toNat) ∨ (table = 4 ∧ 4 ≤ index.toNat)) →
        exec (.tableReport h table index) s = .next (s.answered h .tableReport .refused (some .badField) .nothing)) ∧
    (∀ fb : Byte,
      let refused (e : Reason) : Prop :=
        (s.admits h .sense 1 → exec (.sense h fb) s = .next (s.answered h .sense .refused (some e) .nothing)) ∧
        (s.admits h .furnaceReport 1 →
          exec (.furnaceReport h fb) s = .next (s.answered h .furnaceReport .refused (some e) .nothing))
      (6 ≤ fb.toNat → refused .badField) ∧ ∀ f, finOf 6 fb = some f → s.furnaceCfg f = none → refused .noSuch) ∧
    (∀ part : Byte,
      (s.admits h .powerReport 1 → 2 ≤ part.toNat →
        exec (.powerReport h part) s = .next (s.answered h .powerReport .refused (some .badField) .nothing)) ∧
      (s.admits h .coolingReport 1 → 3 ≤ part.toNat →
        exec (.coolingReport h part) s = .next (s.answered h .coolingReport .refused (some .badField) .nothing)) ∧
      (s.admits h .tapQueueReport 1 → 4 ≤ part.toNat →
        exec (.tapQueueReport h part) s = .next (s.answered h .tapQueueReport .refused (some .badField) .nothing))) ∧
    (∀ f c, s.furnaceCfg f = some c →
      let state := (s.supply c.supply).state
      (state = .starting ∨ state = .running → s.applied f = (s.furnace f).power.grant) ∧
      (state = .idle ∨ state = .retryWait ∨ state = .resetting ∨ state = .failed → s.applied f = 0) ∧
      ((s.supplyCfg c.supply).isSome = true →
        (∀ g d, g ≠ f → s.furnaceCfg g = some d → ¬(d.supply = c.supply ∧ d.channel = c.channel)) →
        s.channel c.supply c.channel = .scaled (s.applied f) c.coil)) ∧
    (∀ u n, (s.supplyCfg u = none ∨ ∀ f c, s.furnaceCfg f = some c → ¬(c.supply = u ∧ c.channel = n)) →
      s.channel u n = .zero) ∧
    (∀ (fb : Byte) (f : FurnaceId) (c : FurnaceCfg), finOf 6 fb = some f → s.furnaceCfg f = some c →
      (s.admits h .sense 1 →
        exec (.sense h fb) s = .next (s.answered h .sense .ok none (.sense (s.furnace f).fault))) ∧
      (s.admits h .furnaceReport 1 →
        exec (.furnaceReport h fb) s = .next (s.answered h .furnaceReport .ok none
          (.furnace ⟨f, s.furnace f, s.applied f,
            if (s.supplyCfg c.supply).isSome then some (s.supply c.supply).state else none⟩)))) ∧
    (s.admits h .powerReport 1 →
      exec (.powerReport h 0) s = .next (s.answered h .powerReport .ok none
        (.budget ⟨s.budget.clock, s.budget.ceiling, s.budget.origin, s.site.defaultCeiling, s.site.baseDraw,
          loopIds.map s.pumpOf, s.budget.draw, s.budget.site, s.budget.slots.toList⟩)) ∧
      exec (.powerReport h 1) s = .next (s.answered h .powerReport .ok none
        (.power s.rotation
          (supplyIds.map fun u => (s.supplyCfg u).map fun k =>
            ⟨(s.supply u).state, (s.supply u).attempts, k.rating, s.energised u, s.fraction u k, s.grantsOn u⟩)
          (furnaceIds.map fun f =>
            if s.configured f then some ⟨(s.furnace f).power, s.group f, s.zeroForced f⟩ else none)))) ∧
    (s.admits h .coolingReport 1 →
      (∃ t, exec (.coolingReport h 0) s = .next t ∧
        (∀ l, t.loop l = if (s.loopCfg l).isSome then { s.loop l with changed := false } else s.loop l) ∧
        t = { s.answered h .coolingReport .ok none
                (.coolingLoops s.line s.lastScan
                  (loopIds.map fun l => (s.loopCfg l).map fun k => ⟨k, s.loop l, s.valves[l], s.secondsLeft l⟩)) with
              loops := t.loops, freeCount := s.freeCount + 1 }) ∧
      exec (.coolingReport h 1) s = .next (s.answered h .coolingReport .ok none
        (.coolingCircuits ((circuitIds.take 8).map fun c => (s.circuitCfg c).map fun k => ⟨k, s.circuit c⟩))) ∧
      exec (.coolingReport h 2) s = .next (s.answered h .coolingReport .ok none
        (.coolingCircuits ((circuitIds.drop 8).map fun c => (s.circuitCfg c).map fun k => ⟨k, s.circuit c⟩)))) ∧
    (s.admits h .tapQueueReport 1 → ∀ part : Byte, part.toNat ≤ 3 →
      exec (.tapQueueReport h part) s = .next (s.answered h .tapQueueReport .ok none
        (.tapQueue s.queue.length s.standby.toList s.matcher ((s.queue.drop (4 * part.toNat)).take 4))))

/-! ## Heats and the furnace record (chapter 2) -/

/-- SERVICE OUT of an EMPTY furnace, SERVICE IN of a RELINE furnace that no masked circuit affects, and DECLARE EMPTY of an
UNDECLARED furnace: the service state, or the phase with what its entry clears and zeroes, and the HEAT notice; and their
refusals. That the HEAT notice SERVICE is the first of the request's notices is the model's choice (log entry 12). -/
def Obligations.ServiceStates : Prop :=
  (∀ (h : Hdr) (fb : Byte) (s : State),
    refusesHeat (.serviceOut h fb) s h .serviceOut 1 fb True True (fun r => r.service = .inService ∧ r.phase = .empty) ∧
    refusesHeat (.serviceIn h fb) s h .serviceIn 1 fb True True (fun r => r.service = .reline) ∧
    refusesHeat (.declareEmpty h fb) s h .declareEmpty 1 fb True True (fun r => r.phase = .undeclared)) ∧
  ∀ (h : Hdr) (fb : Byte) (f : FurnaceId) (s : State),
    PlantSound s → s.part = .running → finOf 6 fb = some f → s.configured f = true →
    let r := s.furnace f
    (s.admits h .serviceOut 1 → r.service = .inService → r.phase = .empty →
      ∃ t, exec (.serviceOut h fb) s = .next t ∧ Scheduled (s.setFurnace f { r with service := .reline }) t ∧
        Answered (s.notify (.heat ⟨f, r.heatNo, .empty, .service .reline⟩)) t h .serviceOut .ok none
          (.heat .empty r.mass)) ∧
    (s.admits h .serviceIn 1 → r.service = .reline →
      ((∀ c, (s.circuit c).masked = true → s.affects c f = false) →
        ∃ t, exec (.serviceIn h fb) s = .next t ∧ Scheduled (s.setFurnace f { r with service := .inService }) t ∧
          Answered (s.notify (.heat ⟨f, r.heatNo, .empty, .service .inService⟩)) t h .serviceIn .ok none
            (.heat .empty r.mass)) ∧
      ((∃ c, (s.circuit c).masked = true ∧ s.affects c f = true) →
        exec (.serviceIn h fb) s = .next (s.answered h .serviceIn .refused (some .interlock) .nothing))) ∧
    (s.admits h .declareEmpty 1 → r.phase = .undeclared →
      ∃ t, exec (.declareEmpty h fb) s = .next t ∧
        Scheduled (s.setFurnace f
          { r with
            phase := .empty, freezeRisk := false, tempUnknown := false
            bath := { r.bath with estimate := none, pendingDip := none, lastDip := none, disagreements := 0 }
            power := { r.power with grant := 0, starvCounter := 0, starvLeft := none } }) t ∧
        Answered (s.notify (.heat ⟨f, r.heatNo, .empty, .phase .undeclared .empty .declareEmpty⟩)) t h .declareEmpty .ok
          none (.heat .empty r.mass))

/-- OPEN HEAT of an EMPTY furnace in service that no masked circuit affects: the furnace is MELTING with a new heat of the
grade and mass given, its required energy mass × em × 3600 J and its setpoint the grade's hold temperature. Its refusals
come in the order of R24; that a heat number of 0 is out of range is the model's choice (log entry 15). -/
def Obligations.OpenHeat : Prop :=
  (∀ (h : Hdr) (fb : Byte) (heat : Half) (gb : Byte) (mass : Half) (s : State),
    refusesHeat (.openHeat h fb heat gb mass) s h .openHeat 6 fb
      (1 ≤ heat.toNat ∧ gb.toNat < 16 ∧ 1 ≤ mass.toNat ∧ mass.toNat ≤ 20000)
      (∃ g, finOf 16 gb = some g ∧ (s.gradeCfg g).isSome = true)
      (fun r => r.service = .inService ∧ r.phase = .empty)) ∧
  ∀ (h : Hdr) (fb : Byte) (heat : Half) (gb : Byte) (mass : Half) (s : State) (f : FurnaceId) (c : FurnaceCfg)
    (g : GradeId) (k : GradeCfg),
    PlantSound s → s.admits h .openHeat 6 → s.part = .running → finOf 6 fb = some f → s.furnaceCfg f = some c →
    finOf 16 gb = some g → s.gradeCfg g = some k → 1 ≤ heat.toNat → 1 ≤ mass.toNat → mass.toNat ≤ 20000 →
    let r := s.furnace f
    r.service = .inService → r.phase = .empty →
    ((∃ m, (s.circuit m).masked = true ∧ s.affects m f = true) →
      exec (.openHeat h fb heat gb mass) s = .next (s.answered h .openHeat .refused (some .interlock) .nothing)) ∧
    ((∀ m, (s.circuit m).masked = true → s.affects m f = false) →
      (c.capacity < mass.toNat →
        exec (.openHeat h fb heat gb mass) s = .next (s.answered h .openHeat .refused (some .badField) .nothing)) ∧
      (mass.toNat ≤ c.capacity →
        ∃ t, exec (.openHeat h fb heat gb mass) s = .next t ∧
          Scheduled (s.setFurnace f
            { r with
              phase := .melting, heatNo := some heat.toNat, grade := some g, mass := mass.toNat, approved := false
              allowance := none, extensions := 0, overheld := false, freezeRisk := false, tempUnknown := false
              energyWh := 0, setpoint := some k.hold
              bath := ⟨some (mass.toNat * k.meltEnergy * 3600), some 0, none, 0, none, none, 0, 0⟩ }) t ∧
          (t.furnace f).setpoint = some k.hold ∧ (t.furnace f).assigned = none ∧
          Answered (s.notify (.heat ⟨f, some heat.toNat, .melting, .phase .empty .melting .openHeat⟩)) t h .openHeat .ok
            none (.heat .melting mass.toNat)))

/-- DECLARE LIQUID of an UNDECLARED furnace that no masked circuit affects: a new heat whose bath stands at the dip, HOLDING
from the hold temperature on and SUPERHEAT below, with the grade's hold allowance running and freeze risk judged. Its
refusals come in the order of R24; that a heat number of 0 is out of range (log entry 15), and that the PHASE notice is the
first of the request's notices (log entry 12), is the model's choice. -/
def Obligations.DeclareLiquid : Prop :=
  (∀ (h : Hdr) (fb : Byte) (heat : Half) (gb : Byte) (mass dip : Half) (s : State),
    refusesHeat (.declareLiquid h fb heat gb mass dip) s h .declareLiquid 8 fb
      (1 ≤ heat.toNat ∧ gb.toNat < 16 ∧ 1 ≤ mass.toNat ∧ mass.toNat ≤ 20000 ∧ 1000 ≤ dip.toNat ∧ dip.toNat ≤ 1750)
      (∃ g, finOf 16 gb = some g ∧ (s.gradeCfg g).isSome = true)
      (fun r => r.phase = .undeclared)) ∧
  ∀ (h : Hdr) (fb : Byte) (heat : Half) (gb : Byte) (mass dip : Half) (s : State) (f : FurnaceId) (c : FurnaceCfg)
    (g : GradeId) (k : GradeCfg),
    PlantSound s → s.admits h .declareLiquid 8 → s.part = .running → finOf 6 fb = some f → s.furnaceCfg f = some c →
    finOf 16 gb = some g → s.gradeCfg g = some k → 1 ≤ heat.toNat → 1 ≤ mass.toNat → mass.toNat ≤ 20000 →
    1000 ≤ dip.toNat → dip.toNat ≤ 1750 →
    let r := s.furnace f
    r.phase = .undeclared →
    ((∃ m, (s.circuit m).masked = true ∧ s.affects m f = true) →
      exec (.declareLiquid h fb heat gb mass dip) s =
        .next (s.answered h .declareLiquid .refused (some .interlock) .nothing)) ∧
    ((∀ m, (s.circuit m).masked = true → s.affects m f = false) →
      (c.capacity < mass.toNat ∨ dip.toNat < k.liquidus →
        exec (.declareLiquid h fb heat gb mass dip) s =
          .next (s.answered h .declareLiquid .refused (some .badField) .nothing)) ∧
      (mass.toNat ≤ c.capacity → k.liquidus ≤ dip.toNat →
        let phase : Phase := if k.hold ≤ dip.toNat then .holding else .superheat
        ∃ t, exec (.declareLiquid h fb heat gb mass dip) s = .next t ∧
          Scheduled (s.setFurnace f
            { r with
              phase := phase, heatNo := some heat.toNat, grade := some g, mass := mass.toNat, approved := false
              allowance := some (k.allowance * 60), extensions := 0, overheld := false, tempUnknown := false
              freezeRisk := freezeAfter false (dip.toNat * 100) ((k.liquidus + c.freezeMargin) * 100)
              energyWh := 0, setpoint := some k.hold
              bath := ⟨none, none, some (dip.toNat * 100), 0, some ⟨dip.toNat, s.uptime⟩, none, 0, 0⟩ }) t ∧
          (t.furnace f).phase = phase ∧ (t.furnace f).setpoint = some k.hold ∧ (t.furnace f).assigned = none ∧
          Answered (s.notify (.heat ⟨f, some heat.toNat, phase, .phase .undeclared phase .declareLiquid⟩)) t h
            .declareLiquid .ok none (.heat phase mass.toNat)))

/-- CLOSE HEAT with the heat's number, in MELTING, SUPERHEAT or HOLDING: the furnace is emptied, its assigned request
released, and the heat summary of the record before goes into the HEAT notice CLOSED and the reply; and its refusals in the
order of R24. That the notice carries no heat number is the model's choice (log entry 13). -/
def Obligations.CloseHeat : Prop :=
  (∀ (h : Hdr) (fb : Byte) (heat : Half) (s : State),
    refusesHeat (.closeHeat h fb heat) s h .closeHeat 3 fb True True Furnace.worked) ∧
  ∀ (h : Hdr) (fb : Byte) (heat : Half) (s : State) (f : FurnaceId),
    PlantSound s → s.admits h .closeHeat 3 → s.part = .running → finOf 6 fb = some f → s.configured f = true →
    let r := s.furnace f
    r.phase = .melting ∨ r.phase = .superheat ∨ r.phase = .holding →
    (r.heatNo ≠ some heat.toNat →
      exec (.closeHeat h fb heat) s = .next (s.answered h .closeHeat .refused (some .noSuch) .nothing)) ∧
    (r.heatNo = some heat.toNat →
      let summary : HeatSummary := ⟨f, r.heatNo, r.grade, false, r.mass, r.energyWh, r.extensions, r.overheld⟩
      ∃ t, exec (.closeHeat h fb heat) s = .next t ∧ Scheduled (s.setFurnace f r.emptied) t ∧
        (t.furnace f).setpoint = none ∧ (t.furnace f).assigned = none ∧ (∀ q ∈ t.queue, q.assigned ≠ some f) ∧
        Answered (s.notify (.heat ⟨f, none, .empty, .closed summary⟩)) t h .closeHeat .ok none
          (.closed .empty 0 summary))

/-- CHARGE: the mass rises by what the room allows, and approval, OVERHELD, allowance and extensions are cleared. A melt's
required energy follows the new mass. A liquid bath returns to MELTING where the credit Q is below the energy E of the
addition; otherwise it is SUPERHEAT at the mixed estimate. Its refusals come in the order of R24, and a furnace without room
refuses with FULL. That CHEMISTRY comes before PHASE, and both before FREEZE_RISK, is the model's choice (log entry 12). -/
def Obligations.Charge : Prop :=
  (∀ (h : Hdr) (fb : Byte) (mass : Half) (s : State),
    refusesHeat (.charge h fb mass) s h .charge 3 fb (1 ≤ mass.toNat ∧ mass.toNat ≤ 20000) True Furnace.worked) ∧
  ∀ (h : Hdr) (fb : Byte) (mass : Half) (s : State) (f : FurnaceId) (c : FurnaceCfg) (g : GradeId) (k : GradeCfg),
    PlantSound s → s.admits h .charge 3 → s.part = .running → finOf 6 fb = some f → s.furnaceCfg f = some c →
    1 ≤ mass.toNat → mass.toNat ≤ 20000 →
    let r := s.furnace f
    r.grade = some g → s.gradeCfg g = some k →
    let room := c.capacity - r.mass
    let added := min mass.toNat room
    let total := r.mass + added
    let charged := { r with mass := total, approved := false, overheld := false, allowance := none, extensions := 0 }
    let told := if r.approved then s.notify (.heat ⟨f, r.heatNo, r.phase, .chemistry false .charge 0 none⟩) else s
    let status := takenStatus (decide (room < mass.toNat))
    (r.phase = .melting ∨ r.phase = .superheat ∨ r.phase = .holding → c.capacity ≤ r.mass →
      exec (.charge h fb mass) s = .next (s.answered h .charge .refused (some .full) .nothing)) ∧
    (r.mass < c.capacity → r.phase = .melting →
      ∃ t, exec (.charge h fb mass) s = .next t ∧
        Scheduled (s.setFurnace f
          { charged with bath := { r.bath with required := some (total * k.meltEnergy * 3600) } }) t ∧
        (t.furnace f).setpoint = r.setpoint ∧ (t.furnace f).assigned = none ∧
        Answered told t h .charge status none (.charge .melting total added)) ∧
    (r.mass < c.capacity → r.phase = .superheat ∨ r.phase = .holding → ∀ est, r.bath.estimate = some est →
      let credit : Int := max 0 (((r.mass : Int) * k.heat * ((est : Int) - (k.liquidus * 100 : Nat))).tdiv 100 + r.bath.jacc)
      let need : Int := (added * k.meltEnergy * 3600 : Nat)
      (credit < need →
        ∃ t, exec (.charge h fb mass) s = .next t ∧
          Scheduled (s.setFurnace f
            { charged with
              phase := .melting, freezeRisk := false, tempUnknown := false
              bath := { r.bath with required := some need.toNat, progress := some credit.toNat, estimate := none
                                    jacc := 0, lastDip := none, pendingDip := none, disagreements := 0 } }) t ∧
          (t.furnace f).assigned = none ∧
          (t.furnace f).setpoint = (if r.assigned.isSome then some k.hold else r.setpoint) ∧
          Answered (told.notify (.heat ⟨f, r.heatNo, .melting, .phase r.phase .melting .charge⟩)) t h .charge status none
            (.charge .melting total added)) ∧
      (need ≤ credit →
        let capacity : Int := (total * k.heat / 100 : Nat)
        let mixed : Int := (k.liquidus * 100 : Nat) + (credit - need).tdiv capacity
        let estimate := (min mixed 180000).toNat
        ∃ t, exec (.charge h fb mass) s = .next t ∧
          Scheduled (s.setFurnace f
            { charged with
              phase := .superheat
              freezeRisk := freezeAfter r.freezeRisk estimate ((k.liquidus + c.freezeMargin) * 100)
              bath := { r.bath with estimate := some estimate
                                    jacc := if 180000 < mixed then 0 else (credit - need).tmod capacity
                                    lastDip := none, pendingDip := none, disagreements := 0 } }) t ∧
          (t.furnace f).assigned = none ∧
          (t.furnace f).setpoint = (if r.assigned.isSome then some k.hold else r.setpoint) ∧
          Answered
            (if r.phase = .holding then told.notify (.heat ⟨f, r.heatNo, .superheat, .phase .holding .superheat .charge⟩)
              else told)
            t h .charge status none (.charge .superheat total added)))

/-- MASS REPORT of a mass above 0: the mass becomes the value, cut to the capacity; a melt's required energy follows it and
cuts the progress. The tap scheduler takes the change. Its refusals come in the order of R24; a mass of 0 is refused last.
-/
def Obligations.MassReport : Prop :=
  (∀ (h : Hdr) (fb : Byte) (mass : Half) (s : State),
    refusesHeat (.massReport h fb mass) s h .massReport 3 fb True True Furnace.worked) ∧
  ∀ (h : Hdr) (fb : Byte) (mass : Half) (s : State) (f : FurnaceId) (c : FurnaceCfg) (g : GradeId) (k : GradeCfg),
    PlantSound s → s.admits h .massReport 3 → s.part = .running → finOf 6 fb = some f → s.furnaceCfg f = some c →
    let r := s.furnace f
    r.grade = some g → s.gradeCfg g = some k → r.phase = .melting ∨ r.phase = .superheat ∨ r.phase = .holding →
    (mass = 0 → exec (.massReport h fb mass) s = .next (s.answered h .massReport .refused (some .badField) .nothing)) ∧
    (mass ≠ 0 →
      let kg := min mass.toNat c.capacity
      let required := kg * k.meltEnergy * 3600
      ∃ t, exec (.massReport h fb mass) s = .next t ∧
        Scheduled (s.setFurnace f
          { r with mass := kg
                   bath := if r.phase = .melting then
                       { r.bath with required := some required, progress := r.bath.progress.map fun p => min p required }
                     else r.bath }) t ∧
        Answered s t h .massReport (takenStatus (decide (c.capacity < mass.toNat))) none
          (.heat (t.furnace f).phase kg))

/-- CHEM APPROVE and CHEM REVOKE with the heat's number: chemistry approved becomes the value, with a CHEMISTRY notice at a
change; an OVERHELD heat takes one of two extensions with the grade's extension allowance, and after both is refused. A
request that finds the value it asks for changes nothing. CHEM REVOKE is answered with phase and mass only. Their refusals
come in the order of R24, another heat number NO_SUCH. That CHEMISTRY is the first of the request's notices is the model's
choice (log entry 12). -/
def Obligations.Chemistry : Prop :=
  (∀ (h : Hdr) (fb : Byte) (heat : Half) (s : State),
    refusesHeat (.chemApprove h fb heat) s h .chemApprove 3 fb True True Furnace.heats ∧
    refusesHeat (.chemRevoke h fb heat) s h .chemRevoke 3 fb True True Furnace.heats ∧
    ∀ f, s.part = .running → finOf 6 fb = some f → s.configured f = true → (s.furnace f).heats →
      (s.furnace f).heatNo ≠ some heat.toNat →
      (s.admits h .chemApprove 3 →
        exec (.chemApprove h fb heat) s = .next (s.answered h .chemApprove .refused (some .noSuch) .nothing)) ∧
      (s.admits h .chemRevoke 3 →
        exec (.chemRevoke h fb heat) s = .next (s.answered h .chemRevoke .refused (some .noSuch) .nothing))) ∧
  ∀ (h : Hdr) (fb : Byte) (heat : Half) (s : State) (f : FurnaceId) (g : GradeId) (k : GradeCfg),
    PlantSound s → s.part = .running → finOf 6 fb = some f → s.configured f = true →
    let r := s.furnace f
    r.grade = some g → s.gradeCfg g = some k → r.phase.hasHeat = true → r.heatNo = some heat.toNat →
    let set (approved : Bool) := { r with approved := approved }
    let extended :=
      { r with allowance := some (k.extension * 60), extensions := r.extensions + 1, overheld := false, approved := true }
    let tells (e : Furnace) (cause : ChemCause) : State :=
      s.notify (.heat ⟨f, r.heatNo, r.phase, .chemistry e.approved cause e.extensions e.allowance⟩)
    let data (t : State) (e : Furnace) : ReplyData :=
      .chemistry (t.furnace f).phase r.mass e.approved e.overheld e.extensions e.allowance
    (s.admits h .chemApprove 3 →
      (r.overheld = false → r.approved = true →
        exec (.chemApprove h fb heat) s = .next (s.answered h .chemApprove .ok none (data s r))) ∧
      (r.overheld = false → r.approved = false →
        ∃ t, exec (.chemApprove h fb heat) s = .next t ∧ Scheduled (s.setFurnace f (set true)) t ∧
          Answered (tells (set true) .request) t h .chemApprove .ok none (data t (set true))) ∧
      (r.overheld = true → r.extensions < 2 →
        ∃ t, exec (.chemApprove h fb heat) s = .next t ∧ Scheduled (s.setFurnace f extended) t ∧
          Answered (tells extended .extension) t h .chemApprove .ok none (data t extended)) ∧
      (r.overheld = true → 2 ≤ r.extensions →
        exec (.chemApprove h fb heat) s =
          .next (s.answered h .chemApprove .refused (some .extensionsUsed) .nothing))) ∧
    (s.admits h .chemRevoke 3 →
      (r.approved = false →
        exec (.chemRevoke h fb heat) s =
        .next (s.answered h .chemRevoke .ok none (.heat r.phase r.mass))) ∧
      (r.approved = true →
        ∃ t, exec (.chemRevoke h fb heat) s = .next t ∧ Scheduled (s.setFurnace f (set false)) t ∧
          Answered (tells (set false) .request) t h .chemRevoke .ok none (.heat (t.furnace f).phase r.mass)))

/-! ## The bath model (chapter 3) -/

/-- DIP: its refusals by R24, and what each gate of R54 to R57 makes of a reading. An accepted dip sets the estimate, J_acc
and the last accepted dip, clears the pending dip and the count, and judges freeze risk and a tap's soft stop; gate 3 also
clears TEMP_UNKNOWN. A dip held or replaced waits as the pending dip and counts one disagreement; the third sets
TEMP_UNKNOWN (R59). It is the model's choice that a count which comes to 3 again with TEMP_UNKNOWN set has these effects
again (log entry 38), and that TEMP_UNKNOWN clear comes before FREEZE_RISK and DIP_REQUEST before READINESS (log entry 12).
-/
def Obligations.DipGates : Prop :=
  (∀ (h : Hdr) (fb : Byte) (temp : Half) (ub : Byte) (s : State),
    refusesHeat (.dip h fb temp ub) s h .dip 4 fb (temp.toNat ≤ 2000 ∧ ub.toNat ≤ 1) True Furnace.heats) ∧
  ∀ (h : Hdr) (fb : Byte) (temp : Half) (ub : Byte) (uncond : Bool) (s : State) (f : FurnaceId) (c : FurnaceCfg)
    (g : GradeId) (k : GradeCfg),
    PlantSound s → s.admits h .dip 4 → s.part = .running → finOf 6 fb = some f → s.furnaceCfg f = some c →
    temp.toNat ≤ 2000 → yesNo ub = some uncond →
    let r := s.furnace f
    r.grade = some g → s.gradeCfg g = some k →
    let d := temp.toNat
    let risk := freezeAfter r.freezeRisk (d * 100) ((k.liquidus + c.freezeMargin) * 100)
    let taken : Bath :=
      { r.bath with estimate := some (d * 100), jacc := 0, lastDip := some ⟨d, s.uptime⟩, pendingDip := none,
                    disagreements := 0 }
    let unknown : Furnace :=
      { r with tempUnknown := true, fault := .tempUnknown s.uptime
               bath := { r.bath with pendingDip := none, disagreements := 3 } }
    (r.phase = .melting →
      (d < k.liquidus →
        exec (.dip h fb temp ub) s = .next (s.answered h .dip .refused (some .wrongState) .nothing)) ∧
      (k.liquidus ≤ d → 1750 < d →
        ∃ t, exec (.dip h fb temp ub) s = .next t ∧ Scheduled s t ∧
          Answered s t h .dip .ok none
            (.dip .implausible .melting r.bath.estimate r.bath.pendingDip r.bath.disagreements r.tempUnknown)) ∧
      (k.liquidus ≤ d → d ≤ 1750 →
        ∃ t, exec (.dip h fb temp ub) s = .next t ∧
          Scheduled (s.setFurnace f
            { r with phase := .superheat, freezeRisk := risk
                     bath := { taken with required := none, progress := none } }) t ∧
          Answered (s.notify (.heat ⟨f, r.heatNo, .superheat, .phase .melting .superheat .meltDip⟩)) t h .dip .ok none
            (.dip .accepted .superheat (some (d * 100)) none 0 r.tempUnknown))) ∧
    (r.phase.liquid = true → ∀ e, r.bath.estimate = some e →
      let n := r.bath.disagreements
      let near := apart (d * 100) e ≤ s.site.dipTolerance * 100
      let verdict : DipOutcome :=
        if uncond then .accepted
        else match r.bath.pendingDip with
          | none => if near then .accepted else .held
          | some p => if apart d p.temp ≤ s.site.dipTolerance then .confirmed else if near then .accepted else .replaced
      (r.tempUnknown = true → uncond = false →
        exec (.dip h fb temp ub) s = .next (s.answered h .dip .refused (some .needUnconditional) .nothing)) ∧
      (r.tempUnknown = false ∨ uncond = true → d < 1000 ∨ 1750 < d →
        ∃ t, exec (.dip h fb temp ub) s = .next t ∧
          (n < 2 →
            Scheduled (s.setFurnace f { r with bath := { r.bath with disagreements := n + 1 } }) t ∧
            Answered s t h .dip .ok none
              (.dip .implausible r.phase (some e) r.bath.pendingDip (n + 1) r.tempUnknown)) ∧
          (n = 2 →
            Scheduled (s.setFurnace f unknown) t ∧
            Answered (s.notify (.heat ⟨f, r.heatNo, r.phase, .tempUnknownSet e r.bath.lastDip⟩)) t h .dip .ok none
              (.dip .implausible r.phase (some e) none 3 true)) ∧
          (2 < n →
            Scheduled s t ∧
            Answered s t h .dip .ok none (.dip .implausible r.phase (some e) r.bath.pendingDip n r.tempUnknown))) ∧
      (r.tempUnknown = false ∨ uncond = true → 1000 ≤ d → d ≤ 1750 →
        (verdict = .accepted ∨ verdict = .confirmed →
          let known := r.tempUnknown && !uncond
          ∃ t, exec (.dip h fb temp ub) s = .next t ∧
            Scheduled ((s.softStopped f (d * 100)).setFurnace f
              { r with freezeRisk := risk, tempUnknown := known, bath := taken }) t ∧
            Answered
              (if r.tempUnknown then s.notify (.heat ⟨f, r.heatNo, r.phase, .tempUnknownClear (d * 100)⟩) else s)
              t h .dip .ok none (.dip verdict r.phase (some (d * 100)) none 0 known)) ∧
        (verdict = .held ∨ verdict = .replaced → n < 2 →
          ∃ t, exec (.dip h fb temp ub) s = .next t ∧
            Scheduled (s.setFurnace f
              { r with bath := { r.bath with pendingDip := some ⟨d, s.uptime⟩, disagreements := n + 1 } }) t ∧
            Answered (s.notify (.heat ⟨f, r.heatNo, r.phase, .dipHeld ⟨d, s.uptime⟩ e⟩)) t h .dip .ok none
              (.dip verdict r.phase (some e) (some ⟨d, s.uptime⟩) (n + 1) r.tempUnknown)) ∧
        (verdict = .held ∨ verdict = .replaced → n = 2 →
          ∃ t, exec (.dip h fb temp ub) s = .next t ∧ Scheduled (s.setFurnace f unknown) t ∧
            Answered (s.notify (.heat ⟨f, r.heatNo, r.phase, .tempUnknownSet e r.bath.lastDip⟩)) t h .dip .ok none
              (.dip verdict r.phase (some e) none 3 true))))

/-- MODEL INTERVAL of furnace f, whose timer runs on for another second. Without a heat only readiness is evaluated. In
MELTING the progress gains the net energy, and at the required energy the melt ends. A liquid bath's estimate and J_acc take
the liquid step; freeze risk, a tap's soft stop and the changes to HOLDING or SUPERHEAT are judged on the new estimate; then
the hold allowance is counted, and at 0 the heat is OVERHELD. That the energy count stops at the largest figure is the
model's choice (log entry 25), and so are that the PHASE notice comes before FREEZE_RISK (log entry 12) and that the expiry of a
timer that does not run has no effect (log entry 5). -/
def Obligations.ModelInterval : Prop :=
  ∀ (f : FurnaceId) (s : State),
    (s.modelTimers[f] = none → exec (.modelInterval f) s = .next s) ∧
    (s.modelTimers[f].isSome = true → PlantSound s →
      let r := s.furnace f
      let run : State := { s with modelTimers := s.modelTimers.set f (some 1000) }
      (s.configured f = false ∨ r.phase.hasHeat = false →
        ∃ t, exec (.modelInterval f) s = .next t ∧ Scheduled run t ∧ Noticed s t) ∧
      ∀ c, s.furnaceCfg f = some c → ∀ g, r.grade = some g → ∀ k, s.gradeCfg g = some k →
        let power := if (s.supply c.supply).state = .running then r.power.grant else 0
        let input : Int := (power * c.efficiency * 10 : Nat)
        let count := r.bath.energyCount + power * c.efficiency / 100
        let counted : Furnace :=
          if 4294967295 ≤ r.energyWh then r
          else { r with energyWh := min (count * 10 / 36) 4294967295, bath := { r.bath with energyCount := count } }
        let threshold := (k.liquidus + c.freezeMargin) * 100
        let aged (x : Furnace) : Furnace :=
          match x.allowance with
          | some 1 => { x with allowance := some 0, overheld := true, approved := false, fault := .overheld s.uptime }
          | some (n + 2) => { x with allowance := some (n + 1) }
          | _ => x
        (r.phase = .melting → ∀ required, r.bath.required = some required → ∀ progress, r.bath.progress = some progress →
          let sum : Int := progress + (input - c.loss * ((k.liquidus : Int) - 25))
          (sum < required → progress < required →
            ∃ t, exec (.modelInterval f) s = .next t ∧
              Scheduled (run.setFurnace f
                { counted with bath := { counted.bath with progress := some sum.toNat } }) t ∧
              Noticed s t) ∧
          (required ≤ sum ∨ required ≤ progress →
            ∃ t, exec (.modelInterval f) s = .next t ∧
              Scheduled (run.setFurnace f
                (aged { counted with
                  phase := .superheat, freezeRisk := freezeAfter r.freezeRisk (k.liquidus * 100) threshold
                  bath := { counted.bath with required := none, progress := none, estimate := some (k.liquidus * 100)
                                              jacc := max 0 (sum - required) } })) t ∧
              Noticed (s.notify (.heat ⟨f, r.heatNo, .superheat, .phase .melting .superheat .meltEnergy⟩)) t)) ∧
        (r.phase.liquid = true → ∀ e, r.bath.estimate = some e →
          let capacity : Int := (r.mass * k.heat / 100 : Nat)
          let joules : Int := r.bath.jacc + (input - c.loss * ((e / 100 : Nat) - 25))
          let raw : Int := e + joules.tdiv capacity
          let estimate := if raw < 0 then 0 else if 180000 < raw then 180000 else raw.toNat
          let clamped := raw < 0 ∨ 180000 < raw
          let stepped : Furnace :=
            { counted with
              freezeRisk := freezeAfter r.freezeRisk estimate threshold
              bath := { counted.bath with estimate := some estimate
                                          jacc := if clamped then 0 else joules - joules.tdiv capacity * capacity } }
          let reaches := r.phase = .superheat ∧ r.setpoint.any (fun x => x * 100 ≤ estimate) = true
          let cools := r.phase = .holding ∧ r.assigned.isSome = true ∧ estimate < (k.tap - k.bandLow) * 100
          let final : Furnace :=
            if reaches then
              if r.allowance = none then { stepped with phase := .holding, allowance := some (k.allowance * 60) }
              else aged { stepped with phase := .holding }
            else if cools then aged { stepped with phase := .superheat }
            else aged stepped
          ∃ t, exec (.modelInterval f) s = .next t ∧
            Scheduled ((run.softStopped f estimate).setFurnace f final) t ∧
            Noticed
              (if reaches then s.notify (.heat ⟨f, r.heatNo, .holding, .phase .superheat .holding .setpoint⟩)
                else if cools then s.notify (.heat ⟨f, r.heatNo, .superheat, .phase .holding .superheat .tapHeat⟩)
                else s) t))

/-! ## Site budget and ceiling schedule (chapter 4) -/

/-- UPTIME STEP: uptime counts one second, and so does a set clock; at a minute boundary the lowest slot that begins then
sets the ceiling, with its notice, and B; a reduction pass runs exactly where B falls in RUNNING. -/
def Obligations.UptimeStep : Prop :=
  ∀ s : State,
    let on : State := { s with uptime := s.uptime + 1 }
    (s.budget.clock = none → exec .uptimeStep s = .next on) ∧
    ∀ c : Clock, s.budget.clock = some c →
      (c.second < 59 →
        exec .uptimeStep s = .next { on with budget := { s.budget with clock := some { c with second := c.second + 1 } } }) ∧
      (59 ≤ c.second →
        let d : Clock :=
          if c.minute < 1439 then ⟨c.weekday, c.minute + 1, 0⟩
          else ⟨if c.weekday = 6 then 0 else c.weekday + 1, 0, 0⟩
        let begins (n : Fin 12) : Prop :=
          (s.budget.slots[n]).enabled = true ∧ (s.budget.slots[n]).start = d.minute ∧
            (s.budget.slots[n]).days.getLsbD d.weekday = true
        ((∀ n, ¬begins n) →
          exec .uptimeStep s = .next { on with budget := { s.budget with clock := some d } }) ∧
        ∀ n, begins n → (∀ m, m < n → ¬begins m) →
          let ceiling := (s.budget.slots[n]).ceiling
          let set : State :=
            { on with budget := { s.budget with clock := some d, ceiling := ceiling, origin := .schedule n
                                                draw := s.drawNow, site := ceiling - s.drawNow } }
          let done := set.notify
            (.ceiling ⟨.slot, ceiling, s.budget.ceiling, .schedule n, some d, s.drawNow, ceiling - s.drawNow⟩)
          ∃ t, exec .uptimeStep s = .next t ∧ Settles (s.part = .running ∧ ceiling - s.drawNow < s.budget.site) done t)

/-- CLOCK SET: the clock holds the three values given, and nothing else changes, the ceiling and its origin included; a value
out of its range is refused with BAD_FIELD. -/
def Obligations.ClockSet : Prop :=
  ∀ (h : Hdr) (weekday : Byte) (minute : Half) (second : Byte) (s : State), s.admits h .clockSet 4 →
    let c : Clock := ⟨weekday.toNat, minute.toNat, second.toNat⟩
    (weekday.toNat ≤ 6 → minute.toNat ≤ 1439 → second.toNat ≤ 59 →
      exec (.clockSet h weekday minute second) s =
        .next (({ s with budget := { s.budget with clock := some c } } : State).answered h .clockSet .ok none (.clock c))) ∧
    (6 < weekday.toNat ∨ 1439 < minute.toNat ∨ 59 < second.toNat →
      exec (.clockSet h weekday minute second) s =
        .next (s.answered h .clockSet .refused (some .badField) .nothing))

/-- SCHEDULE SET: its three checks in their order, a clash naming the lowest slot that clashes; a slot that passes replaces
the old one as a whole and nothing else changes. -/
def Obligations.ScheduleSet : Prop :=
  ∀ (h : Hdr) (sb eb days : Byte) (start ceiling : Half) (s : State), s.admits h .scheduleSet 7 →
    let command : Instr := .scheduleSet h sb eb days start ceiling
    let inRange := sb.toNat < 12 ∧ eb.toNat ≤ 1 ∧ days.toNat < 128 ∧ start.toNat ≤ 1439 ∧ ceiling.toNat ≤ 30000
    (¬inRange ∨ (eb = 1 ∧ days = 0) →
      exec command s = .next (s.answered h .scheduleSet .refused (some .badField) .nothing)) ∧
    (inRange → ¬(eb = 1 ∧ days = 0) → ∀ n, finOf 12 sb = some n →
      let x : Slot := ⟨eb == 1, days.setWidth 7, start.toNat, ceiling.toNat⟩
      let clash (m : Fin 12) : Prop :=
        eb = 1 ∧ m ≠ n ∧ (s.budget.slots[m]).enabled = true ∧ (s.budget.slots[m]).start = x.start ∧
          ∃ day : Fin 7, (s.budget.slots[m]).days.getLsbD day = true ∧ x.days.getLsbD day = true
      (∀ m, clash m → (∀ j, j < m → ¬clash j) →
        exec command s = .next (s.answered h .scheduleSet .refused (some .duplicate) (.clash m))) ∧
      ((∀ m, ¬clash m) →
        exec command s =
          .next (({ s with budget := { s.budget with slots := s.budget.slots.set n x } } : State).answered h .scheduleSet
            .ok none (.slot x))))

/-- CEILING OVERRIDE: the ceiling becomes the value, cut to 30000, with origin OVERRIDE; A and B are recomputed and the
CEILING notice sent; a reduction pass runs exactly where B falls in RUNNING. -/
def Obligations.CeilingOverride : Prop :=
  ∀ (h : Hdr) (value : Half) (s : State), s.admits h .ceilingOverride 2 →
    let ceiling := min value.toNat 30000
    let site := ceiling - s.drawNow
    let set : State :=
      { s with budget := { s.budget with ceiling := ceiling, origin := .override, draw := s.drawNow, site := site } }
    let done :=
      (set.notify (.ceiling ⟨.override, ceiling, s.budget.ceiling, .override, s.budget.clock, s.drawNow, site⟩)).answered h
        .ceilingOverride (takenStatus (decide (30000 < value.toNat))) none (.ceiling ceiling site)
    ∃ t, exec (.ceilingOverride h value) s = .next t ∧ Settles (s.part = .running ∧ site < s.budget.site) done t

/-! ## Power apportionment (chapter 5) -/

/-- SET CLASS: its refusals; the class written by the table of R75, with the effective class recomputed; a POWER notice
CLASS where the set class changes, and the reply. The rush allowance and all else are kept. The order of the refusals (log
entry 39) and that the notice comes before the reply (log entry 12) is the model's choice; that the reply, whose notices-lost
flag shows it, is formed last is read from the spec (log entry 11). -/
def Obligations.SetClass : Prop :=
  ∀ (h : Hdr) (fb cb : Byte) (s : State), s.admits h .setClass 2 →
    (s.part = .configuring →
      exec (.setClass h fb cb) s = .next (s.answered h .setClass .refused (some .wrongState) .nothing)) ∧
    (s.part = .running →
      (6 ≤ fb.toNat ∨ 5 ≤ cb.toNat →
        exec (.setClass h fb cb) s = .next (s.answered h .setClass .refused (some .badField) .nothing)) ∧
      ∀ f, finOf 6 fb = some f → ∀ asked, classOf cb = some asked →
        (s.configured f = false →
          exec (.setClass h fb cb) s = .next (s.answered h .setClass .refused (some .noSuch) .nothing)) ∧
        (s.configured f = true →
          let p := (s.furnace f).power
          let written : PowerClass :=
            if asked = .critical ∧ (h.port = .deck ∨ p.rush = 0) then .expedite else asked
          let eff := written.boost (s.boosted f)
          let set := s.modPower f fun p => { p with setClass := written, effClass := eff }
          let told :=
            if p.setClass = written then set
            else set.notify (.power ⟨f, written, eff, p.rush, p.grant, .cls .request h.port⟩)
          exec (.setClass h fb cb) s =
            .next (told.answered h .setClass (if written = asked then .ok else .adjusted) none (.cls written eff p.rush))))

/-- RUSH ALLOWANCE: its refusals, from DECK by the link unit; from SUP in RUNNING the allowance becomes the value; a value
of 0 takes a CRITICAL furnace to STANDARD, with its POWER notice. All else is kept. The order of the refusals (log entry
39) and that the notice comes before the reply (log entry 12) is the model's choice; that the reply, whose notices-lost flag
shows it, is formed last is read from the spec (log entry 11). -/
def Obligations.RushAllowance : Prop :=
  ∀ (h : Hdr) (fb : Byte) (seconds : Half) (s : State), (s.port h.port).replies.length < 4 → h.len = 3 →
    let refused (e : Reason) : Prop :=
      exec (.rushAllowance h fb seconds) s = .next (s.answered h .rushAllowance .refused (some e) .nothing)
    (h.port = .deck → refused .notPermitted) ∧
    (h.port = .sup → s.part = .configuring → refused .wrongState) ∧
    (h.port = .sup → s.part = .running →
      (6 ≤ fb.toNat ∨ 3600 < seconds.toNat → refused .badField) ∧
      ∀ f, finOf 6 fb = some f → seconds.toNat ≤ 3600 →
        (s.configured f = false → refused .noSuch) ∧
        (s.configured f = true →
          let p := (s.furnace f).power
          (seconds.toNat = 0 → p.setClass = .critical →
            let eff := PowerClass.standard.boost (s.boosted f)
            exec (.rushAllowance h fb seconds) s =
              .next (((s.modPower f fun p => { p with rush := 0, setClass := .standard, effClass := eff }).notify
                (.power ⟨f, .standard, eff, 0, p.grant, .cls .allowance .sup⟩)).answered h .rushAllowance .ok none
                  (.cls .standard eff 0))) ∧
          (¬(seconds.toNat = 0 ∧ p.setClass = .critical) →
            exec (.rushAllowance h fb seconds) s =
              .next ((s.modPower f fun p => { p with rush := seconds.toNat }).answered h .rushAllowance .ok none
                (.cls p.setClass p.effClass seconds.toNat)))))

/-- The period pass in RUNNING, where no supply can enter FAILED: every grant becomes its figure, with the starvation floor
that the site table now has (R5); the supplies take the new totals, and start (into RETRY_WAIT or RESETTING at once with the
fault input asserted) or drop to IDLE by them; starvation and rush allowances are counted; the rotation pointer moves to the
next configured position. The ports gain the ATTEMPT_FAILED notices of the supplies, then in ascending furnace order STARVED
before RUSH_ENDED; nothing else changes. A supply that starts with the fault input asserted and no retry left is FAILED with
its notice, its furnaces' grants 0 and their fault sense records written, and no other grant is above its figure. In
CONFIGURING only the timer runs on. That an expiry of a timer that does not run has no effect is the model's choice (log
entry 5), and that the totals are handed over after all grants have been replaced is read from the spec (log entry 10). -/
def Obligations.PeriodPass : Prop :=
  ∀ s : State,
    let now : State := { s with floor := s.site.starvFloor }
    (s.periodTimer = none → exec .periodPass s = .next s) ∧
    (s.periodTimer.isSome = true → s.part = .configuring →
      exec .periodPass s = .next { s with periodTimer := some 1000 }) ∧
    (s.periodTimer.isSome = true → s.part = .running →
      (∀ u k, s.supplyCfg u = some k → (s.supply u).state = .idle → s.inputs[u].fault = true →
        k.noRetry = false ∧ (s.supply u).attempts < 4) →
      ∃ t, exec .periodPass s = .next t ∧
        (let told :=
            (supplyIds.filter fun u => (s.supplyCfg u).isSome && (s.supply u).state == .idle && (s.supply u).total == 0 &&
                s.inputs[u].fault && 0 < ((s.furnacesOn u).map (figureIn now.figures)).sum).foldl
              (fun y u => y.notify (.supply ⟨u, (t.supply u).state, (t.supply u).attempts, (t.supply u).total,
                .attemptFailed .faultInput .starting⟩)) s
          let power (f : FurnaceId) (e : PowerEvent) : NoticeBody :=
            let q := (t.furnace f).power
            .power ⟨f, q.setClass, q.effClass, q.rush, q.grant, e⟩
          let noticed := furnaceIds.foldl (fun y f =>
            let p := (s.furnace f).power
            let q := (t.furnace f).power
            let z := if p.starvLeft = none ∧ q.starvLeft.isSome = true then
                y.notify (power f (.starved (now.floorOf f) p.need s.site.starvDuration))
              else y
            if s.configured f = true ∧ p.setClass = .critical ∧ 0 < q.grant ∧ p.rush ≤ 1 then z.notify (power f .rushEnded)
            else z) told
          t.sup = noticed.sup ∧ t.deck = noticed.deck) ∧
        t = { now with furnaces := t.furnaces, supplies := t.supplies, rotation := t.rotation, periodTimer := some 1000
                       sup := t.sup, deck := t.deck } ∧
        ((∀ f, s.configured f = false) → t.rotation = s.rotation) ∧
        (∀ f, s.configured f = true → s.configured t.rotation = true ∧
          (t.rotation - s.rotation - 1).val ≤ (f - s.rotation - 1).val) ∧
        (∀ u, s.supplyCfg u = none → t.supply u = s.supply u) ∧
        (∀ u k, s.supplyCfg u = some k →
          let r := s.supply u
          let total := ((s.furnacesOn u).map (figureIn now.figures)).sum
          t.supply u =
            if r.state = .idle ∧ r.total = 0 ∧ 0 < total then
              if s.inputs[u].fault then
                if r.attempts = 3 then ⟨.resetting, 4, total, some ⟨.resetHold, 5⟩, true⟩
                else ⟨.retryWait, r.attempts + 1, total, some ⟨.retry, 2⟩, false⟩
              else if s.inputs[u].running then ⟨.running, r.attempts, total, some ⟨.stableRun, 60⟩, false⟩
              else ⟨.starting, r.attempts, total, some ⟨.start, k.startTime⟩, false⟩
            else if total = 0 ∧ 0 < r.total ∧ r.state ≠ .idle ∧ r.state ≠ .failed then ⟨.idle, r.attempts, 0, none, false⟩
            else { r with total := total }) ∧
        ∀ f,
          let p := (s.furnace f).power
          let q := (t.furnace f).power
          t.furnace f = { s.furnace f with
            power := { p with grant := figureIn now.figures f, starvCounter := q.starvCounter, starvLeft := q.starvLeft
                              rush := q.rush, setClass := q.setClass, effClass := q.effClass } } ∧
          (s.configured f = false → q = { p with grant := q.grant }) ∧
          (s.configured f = true →
            let working := s.group f = .working
            let spends := p.setClass = .critical ∧ 0 < q.grant
            (¬working → q.starvCounter = 0 ∧ q.starvLeft = none) ∧
            (working → ∀ n, p.starvLeft = some n →
              q.starvCounter = 0 ∧ q.starvLeft = if n ≤ 1 then none else some (n - 1)) ∧
            (working → p.starvLeft = none →
              (s.budget.site = 0 → q.starvCounter = p.starvCounter ∧ q.starvLeft = none) ∧
              (0 < s.budget.site →
                (min (now.floorOf f) p.need ≤ q.grant → q.starvCounter = 0 ∧ q.starvLeft = none) ∧
                (q.grant < min (now.floorOf f) p.need →
                  (p.starvCounter + 1 < s.site.starvLimit →
                    q.starvCounter = p.starvCounter + 1 ∧ q.starvLeft = none) ∧
                  (s.site.starvLimit ≤ p.starvCounter + 1 →
                    q.starvCounter = 0 ∧ q.starvLeft = some s.site.starvDuration)))) ∧
            (¬spends → q.rush = p.rush ∧ q.setClass = p.setClass ∧ q.effClass = p.effClass) ∧
            (spends → q.rush = p.rush - 1 ∧
              (1 < p.rush → q.setClass = p.setClass ∧ q.effClass = p.effClass) ∧
              (p.rush ≤ 1 → q.setClass = .standard ∧ q.effClass = PowerClass.standard.boost (s.boosted f))))) ∧
    (s.periodTimer.isSome = true → s.part = .running → PlantSound s →
      ∀ u k, s.supplyCfg u = some k → (s.supply u).state = .idle → (s.supply u).total = 0 → s.inputs[u].fault = true →
        k.noRetry = true ∨ 4 ≤ (s.supply u).attempts → 0 < ((s.furnacesOn u).map (figureIn now.figures)).sum →
        ∃ t, exec .periodPass s = .next t ∧ t.supply u = ⟨.failed, (s.supply u).attempts + 1, 0, none, false⟩ ∧
          (∀ p, (t.port p).lost = true ∨
            (⟨s.uptime, .supply ⟨u, .failed, (s.supply u).attempts + 1, 0,
              .failed .faultInput k.noRetry (s.furnacesOn u)⟩⟩ : Notice) ∈ (t.port p).notices) ∧
          (∀ f ∈ s.furnacesOn u, (t.furnace f).power.grant = 0 ∧ (t.furnace f).fault = .supplyFailed u s.uptime) ∧
          ∀ f, f ∉ s.furnacesOn u → (t.furnace f).power.grant ≤ figureIn now.figures f)

/-! ## Supply outputs (chapter 6) -/

/-- SUPPLY RESET of a FAILED supply: IDLE with attempt count 0, its SUPPLY notice RESET, and the change handed to the tap
scheduler. In any other state, of an unconfigured supply and of an index out of range it is refused. -/
def Obligations.SupplyReset : Prop :=
  (∀ (h : Hdr) (ub : Byte) (s : State), s.admits h .supplyReset 1 →
    (2 ≤ ub.toNat → exec (.supplyReset h ub) s = .next (s.answered h .supplyReset .refused (some .badField) .nothing)) ∧
    ∀ u, finOf 2 ub = some u → s.supplyCfg u = none →
      exec (.supplyReset h ub) s = .next (s.answered h .supplyReset .refused (some .noSuch) .nothing)) ∧
  ∀ (h : Hdr) (ub : Byte) (s : State) (u : SupplyId) (k : SupplyCfg),
    PlantSound s → s.admits h .supplyReset 1 → finOf 2 ub = some u → s.supplyCfg u = some k →
    let r := s.supply u
    (r.state ≠ .failed →
      exec (.supplyReset h ub) s = .next (s.answered h .supplyReset .refused (some .wrongState) .nothing)) ∧
    (r.state = .failed →
      ∃ t, exec (.supplyReset h ub) s = .next t ∧
        Scheduled (s.setSupply u { r with state := .idle, attempts := 0 }) t ∧
        Answered (s.notify (.supply ⟨u, .idle, 0, r.total, .reset h.port⟩)) t h .supplyReset .ok none
          (.supply .idle 0 r.total))

/-- The five timers of a configured supply, each running in its state: a start timeout is a failed attempt; the retry and
reset hold timers enter STARTING, which becomes RUNNING at once with the running input asserted, and with the fault input
asserted is at once a failed attempt; the end of the reset pulse de-asserts the reset output; 60 s of RUNNING clear the
attempt count. That an expiry of a timer that does not run, or not in its state, has no effect is the model's choice (log
entry 5). -/
def Obligations.SupplyTimers : Prop :=
  ∀ (u : SupplyId) (s : State) (k : SupplyCfg), s.supplyCfg u = some k →
    let r := s.supply u
    let runs (x : SupplyState) (w : SupplyTimer) : Prop := r.state = x ∧ ∃ d, r.timer = some d ∧ d.which = w
    let starting : State :=
      s.setSupply u { r with state := .starting, timer := some ⟨.start, k.startTime⟩, resetOut := false }
    let entered : State :=
      if s.inputs[u].running then
        s.setSupply u { r with state := .running, timer := some ⟨.stableRun, 60⟩, resetOut := false }
      else starting
    (∀ n, r.timer = some ⟨.start, n⟩ → r.state = .starting → PlantSound s →
      ∃ t, exec (.startTimerExpiry u) s = .next t ∧ attemptFails s u k .startTimeout t) ∧
    (∀ n, r.timer = some ⟨.retry, n⟩ → r.state = .retryWait → s.inputs[u].fault = false →
      exec (.retryTimerExpiry u) s = .next entered) ∧
    (∀ n, r.timer = some ⟨.resetHold, n⟩ → r.state = .resetting → s.inputs[u].fault = false →
      exec (.resetHoldTimerExpiry u) s = .next entered) ∧
    (s.inputs[u].fault = true → PlantSound s →
      (∀ n, r.timer = some ⟨.retry, n⟩ → r.state = .retryWait →
        ∃ t, exec (.retryTimerExpiry u) s = .next t ∧ attemptFails starting u k .faultInput t) ∧
      (∀ n, r.timer = some ⟨.resetHold, n⟩ → r.state = .resetting →
        ∃ t, exec (.resetHoldTimerExpiry u) s = .next t ∧ attemptFails starting u k .faultInput t)) ∧
    exec (.resetPulseEnd u) s = .next (s.setSupply u { r with resetOut := false }) ∧
    (∀ n, r.timer = some ⟨.stableRun, n⟩ → r.state = .running →
      exec (.stableRunTimerExpiry u) s = .next (s.setSupply u { r with attempts := 0, timer := none })) ∧
    (¬runs .starting .start → exec (.startTimerExpiry u) s = .next s) ∧
    (¬runs .retryWait .retry → exec (.retryTimerExpiry u) s = .next s) ∧
    (¬runs .resetting .resetHold → exec (.resetHoldTimerExpiry u) s = .next s) ∧
    (¬runs .running .stableRun → exec (.stableRunTimerExpiry u) s = .next s)

/-- The two inputs of a configured supply. The running input becoming asserted in STARTING enters RUNNING; dropping in RUNNING
it returns to STARTING with a SUPPLY notice RUN_LOST; neither is judged while the fault input is asserted. The fault input
becoming asserted in STARTING or RUNNING is a failed attempt. Any other change only changes the level. -/
def Obligations.SupplyInputs : Prop :=
  ∀ (u : SupplyId) (s : State) (k : SupplyCfg), s.supplyCfg u = some k →
    let r := s.supply u
    let i := s.inputs[u]
    let running (b : Bool) : State := { s with inputs := s.inputs.set u { i with running := b } }
    let fault (b : Bool) : State := { s with inputs := s.inputs.set u { i with fault := b } }
    (i.fault = false → i.running = false → r.state = .starting →
      exec (.runningInputChange u true) s =
        .next ((running true).setSupply u { r with state := .running, timer := some ⟨.stableRun, 60⟩ })) ∧
    (i.fault = false → i.running = true → r.state = .running →
      exec (.runningInputChange u false) s =
        .next (((running false).setSupply u
          { r with state := .starting, timer := some ⟨.start, k.startTime⟩, resetOut := false }).notify
            (.supply ⟨u, .starting, r.attempts, r.total, .runLost⟩))) ∧
    (∀ b, (i.fault = true ∨ ¬(r.state = .starting ∧ b = true) ∧ ¬(r.state = .running ∧ b = false)) →
      exec (.runningInputChange u b) s = .next (running b)) ∧
    (i.fault = false → r.state = .starting ∨ r.state = .running → PlantSound s →
      ∃ t, exec (.faultInputChange u true) s = .next t ∧ attemptFails (fault true) u k .faultInput t) ∧
    (exec (.faultInputChange u false) s = .next (fault false)) ∧
    (r.state ≠ .starting → r.state ≠ .running → exec (.faultInputChange u true) s = .next (fault true))

/-! ## Cooling sensor line and circuit conditions (chapter 7) -/

/-- What starts a scan: an expiry of the scan period timer with the line IDLE, or an enabled station start with the line IDLE;
on a SCANNING line the one is skipped and the other ignored. The timer runs on with the site's scan period, and a station
start leaves it running. -/
def Obligations.ScanStarts : Prop :=
  ∀ s : State,
    (∀ n, s.scanTimer = some n →
      (s.line = .idle → exec .scanPeriodExpiry s =
        .next { s with scanTimer := some s.site.scanPeriod, line := .scanning .periodic }) ∧
      (∀ x, s.line = .scanning x → exec .scanPeriodExpiry s = .next { s with scanTimer := some s.site.scanPeriod })) ∧
    (s.site.alarmStarts = true → s.line = .idle → exec .stationStart s = .next { s with line := .scanning .alarm }) ∧
    (∀ x, s.site.alarmStarts = false ∨ s.line = .scanning x → exec .stationStart s = .next s)

/-- What a configured circuit takes from its slot at a scan completion. An absent slot keeps the reading and counts a miss, and
the second in a row makes the condition LOST. A present one replaces the reading, sets the misses to 0, and judges the
condition by the four tests, from the condition it finds. -/
def Obligations.ConditionJudgement : Prop :=
  ∀ (slots : Slots) (s : State) (x : ScanCause) (c : CircuitId) (k : CircuitCfg),
    s.line = .scanning x → s.circuitCfg c = some k →
    let r := s.circuit c
    ∃ t, exec (.scanCompletion slots) s = .next t ∧
      let q := t.circuit c
      ((slots.circuits[c] = none ∨
          ∃ a, slots.circuits[c] = some a ∧ (a.checkAgrees = false ∨ 1000 < a.first ∨ 120 < a.second)) →
        q.reading = r.reading ∧ q.misses = (if 1 ≤ r.misses then max 2 r.misses else 1) ∧
        q.condition = if r.misses = 1 then .lost else r.condition) ∧
      ∀ a, slots.circuits[c] = some a → a.checkAgrees = true → a.first ≤ 1000 → a.second ≤ 120 →
        let flow := a.first
        let temp := a.second
        let tripLevel := flow < k.flowTrip ∨ k.tempTrip < temp
        let warnLevel := flow < k.flowWarn ∨ k.tempWarn < temp
        let tripClear := k.flowTrip + k.flowHyst ≤ flow ∧ (temp : Int) ≤ (k.tempTrip : Int) - k.tempHyst
        let warnClear := k.flowWarn + k.flowHyst ≤ flow ∧ (temp : Int) ≤ (k.tempWarn : Int) - k.tempHyst
        q.reading = some ⟨flow, temp⟩ ∧ q.misses = 0 ∧
        (r.condition = .normal →
          q.condition = if tripLevel then .trip else if warnLevel then .warn else .normal) ∧
        (r.condition = .warn →
          q.condition = if tripLevel then .trip else if warnClear then .normal else .warn) ∧
        (r.condition = .trip ∨ r.condition = .lost →
          q.condition = if tripClear then (if warnClear then .normal else .warn) else .trip)

/-- The scan completion. The line is IDLE and the completion is noted. Each configured loop's readings, counts, state,
valve, changed flag and return delay follow its slot; A and B follow the loops; the requests of loops and circuits are
raised and withdrawn by the changes; the trip-held set is what they leave. The LOOP_SUPPLY notices come first, in ascending
order, each with A and B as its change leaves them; each raise and each withdrawal has its TRIP notice at both ports, but
for one that has lost notices. A furnace newly held has grant 0 and the fault sense record of the first source that raised
over it, and a tap started on it has ended; of the other records of the queue, and of the furnaces, nothing changes but what
the tap scheduler moves. A supply may drop to IDLE as its total falls to 0. A reduction pass cuts the grants exactly where a
cap or, at any loop's change, B falls in RUNNING; that the fall of a cap is judged between the scan's beginning and its end
(log entry 9), that the changes are taken one by one (log entry 37) and that an IDLE line has no scan to complete (log entry
19) is the model's choice. -/
def Obligations.ScanCompletion : Prop :=
  ∀ (slots : Slots) (s : State),
    (s.line = .idle → exec (.scanCompletion slots) s = .next s) ∧
    ∀ x, s.line = .scanning x → PlantSound s → DerivedSound s →
      ∃ t, exec (.scanCompletion slots) s = .next t ∧
        let raisedLoop (l : LoopId) : Prop := (s.loop l).request = .none ∧ (t.loop l).request = .pending
        let raisedCircuit (c : CircuitId) : Prop := (s.circuit c).request = .none ∧ (t.circuit c).request = .pending
        let code (c : CircuitId) : CoolingCode := if (t.circuit c).condition = .lost then .circuitLost else .circuitTrip
        let told (b : NoticeBody) : Prop := ∀ p, (t.port p).lost = true ∨ (⟨s.uptime, b⟩ : Notice) ∈ (t.port p).notices
        t.line = .idle ∧ t.lastScan = some ⟨s.uptime, x⟩ ∧
        t.budget = { s.budget with draw := s.site.baseDraw + (loopIds.map t.pumpOf).sum
                                   site := s.budget.ceiling - (s.site.baseDraw + (loopIds.map t.pumpOf).sum) } ∧
        (∀ u, SupplyKeeps (s.supply u) (t.supply u)) ∧
        (t.queue.map Tap.fixed =
          (s.queue.filter fun r => !(r.state == .started && r.assigned.any t.isHeld)).map Tap.fixed) ∧
        (t.part = s.part ∧ t.tables = s.tables ∧ t.uptime = s.uptime ∧ t.inputs = s.inputs ∧
          t.scanTimer = s.scanTimer ∧ t.modelTimers = s.modelTimers ∧ t.periodTimer = s.periodTimer ∧
          t.rotation = s.rotation ∧ t.floor = s.floor ∧ t.bottom = s.bottom ∧ t.standby = s.standby ∧ t.freeCount = s.freeCount ∧
          t.pending = s.pending ∧ Noticed s t) ∧
        (let drawAt (n : Nat) := s.site.baseDraw + (loopIds.map fun m => if m.val < n then t.pumpOf m else s.pumpOf m).sum
          let siteAt (n : Nat) := s.budget.ceiling - drawAt n
          let cause (l : LoopId) : LoopCause :=
            match (s.loop l).state with
            | .primary => .primaryFailed
            | .emergency => .tankFailed
            | .lost => if (t.loop l).state = .primary then .primaryRestored else .tankAvailable
          let notice (l : LoopId) : LoopNotice :=
            let q := t.loop l
            ⟨l, (s.loop l).state, q.state, cause l, t.valves[l], q.reading, q.primaryFails, q.tankFails, q.hold,
              drawAt (l.val + 1), siteAt (l.val + 1), s.loopAffectedBy l⟩
          let moved := loopIds.filter fun l => (t.loop l).state ≠ (s.loop l).state
          Noticed (moved.foldl (fun y l => y.notify (.loopSupply (notice l))) s) t ∧
          let fell := s.part = .running ∧ ((∃ l : LoopId, siteAt (l.val + 1) < siteAt l.val) ∨
            ∃ f, s.configured f = true ∧ (t.furnace f).power.cap < (s.furnace f).power.cap)
          (fell → ∀ f, (t.furnace f).power.grant ≤ figureIn t.figures f) ∧ ∀ f, f ∉ t.held → GrantsCut fell s t f) ∧
        (∀ l, s.loopCfg l = none → t.loop l = s.loop l ∧ t.valves[l] = s.valves[l]) ∧
        (∀ l k, s.loopCfg l = some k →
          let r := s.loop l
          let q := t.loop l
          let slot := match slots.loops[l] with
            | some a => if a.checkAgrees ∧ a.first ≤ 1000 ∧ a.second ≤ 100 then some (a.first, a.second) else none
            | none => none
          let counts (n : Nat) (good : Bool) := if good then 0 else if n < 2 then n + 1 else n
          let healthy := q.primaryFails = 0 ∧ q.reading.isSome = true
          let available := q.tankFails = 0 ∧ q.reading.isSome = true
          q.reading = (slot.map fun v => ⟨v.1, v.2⟩).or r.reading ∧
          q.primaryFails = counts r.primaryFails (slot.any fun v => k.minPressure ≤ v.1) ∧
          q.tankFails = counts r.tankFails (slot.any fun v => k.minTank ≤ v.2) ∧
          q.state = (match r.state with
            | .primary => if q.primaryFails = 2 then (if available then .emergency else .lost) else .primary
            | .emergency => if q.tankFails = 2 then (if healthy then .primary else .lost) else .emergency
            | .lost => if healthy then .primary else if available then .emergency else .lost) ∧
          q.hold = r.hold ∧ q.changed = (r.changed || decide (q.state ≠ r.state)) ∧
          (q.healthySince, q.returnTimer) =
            (if q.state ≠ r.state then (none, none)
              else if r.state = .emergency ∧ ¬healthy then (none, none)
              else if r.state = .emergency ∧ r.hold = false ∧ r.healthySince = none then (some s.uptime, some k.returnDelay)
              else (r.healthySince, r.returnTimer)) ∧
          q.request = (if q.state = .lost ∧ r.state ≠ .lost ∧ r.request = .none then .pending else r.request) ∧
          t.valves[l] = if q.state = r.state then s.valves[l] else
            match q.state with
            | .primary => .primary
            | .emergency => .emergency
            | .lost => k.lostValve) ∧
        (∀ c, s.circuitCfg c = none → t.circuit c = s.circuit c) ∧
        (∀ c k, s.circuitCfg c = some k →
          let r := s.circuit c
          let q := t.circuit c
          let loopRaised := (s.loop k.loop).request = .none ∧ (t.loop k.loop).request = .pending
          let stood : Request := if r.request = .pending ∧ loopRaised then .none else r.request
          let free := s.loopCfg k.loop = none ∨ (t.loop k.loop).request = .none
          let raises := r.condition.bad = false ∧ q.condition.bad = true ∧ r.masked = false ∧ stood = .none ∧ free
          let withdraws := k.sensing = .live ∧ stood = .pending ∧ r.condition.bad = true ∧ q.condition.bad = false
          q.masked = r.masked ∧
          q.request = (if raises then .pending else if withdraws then .none else stood) ∧
          q.transient = (if raises then false else if withdraws then true else r.transient) ∧
          (withdraws → ∃ held, told (.trip ⟨.circuit c q.condition k.sensing, .withdrawn .condition, .none, r.masked, true,
            s.affectedBy c, held⟩)) ∧
          (raises → ∃ written held, (∀ f ∈ written, f ∈ s.affectedBy c) ∧ (∀ f ∈ s.affectedBy c, f ∈ held) ∧
            told (.trip ⟨.circuit c q.condition k.sensing, .raised (code c) written [], .pending, false, false,
              s.affectedBy c, held⟩))) ∧
        (∀ l, raisedLoop l → ∃ written held, (∀ f ∈ written, f ∈ s.loopAffectedBy l) ∧ (∀ f ∈ s.loopAffectedBy l, f ∈ held) ∧
          told (.trip ⟨.loop l .lost, .raised .loopLost written
            ((s.circuitsOf l).filter fun c => (s.circuit c).request = .pending), .pending, false, false,
            s.loopAffectedBy l, held⟩)) ∧
        t.held = t.heldNow ∧
        ∀ f,
          let tap := s.queue.find? fun r => r.assigned = some f ∧ r.state = .started
          let r := s.furnace f
          let q := t.furnace f
          let ended := if tap.isSome then r.tapped else r
          let p := q.power
          let zeroed := p.grant = 0 ∧ p.starvCounter = 0 ∧ p.starvLeft = none
          (f ∉ t.held → Bystander r q) ∧
          (f ∈ t.held → Bystander
            { ended with
              fault := q.fault
              power := { ended.power with starvCounter := p.starvCounter, starvLeft := p.starvLeft } } q) ∧
          (f ∈ t.held → f ∈ s.held →
            (q.fault = r.fault ∧ p.starvCounter = r.power.starvCounter ∧ p.starvLeft = r.power.starvLeft) ∨
            (zeroed ∧
              ((∃ l, raisedLoop l ∧ f ∈ s.loopAffectedBy l ∧ q.fault = .cooling .loopLost (.loop l) s.uptime) ∨
                ∃ c, raisedCircuit c ∧ f ∈ s.affectedBy c ∧ q.fault = .cooling (code c) (.circuit c) s.uptime))) ∧
          (f ∈ t.held → f ∉ s.held → zeroed ∧
            (tap = none →
              (∀ l, raisedLoop l → f ∈ s.loopAffectedBy l → (∀ m, m < l → raisedLoop m → f ∉ s.loopAffectedBy m) →
                q.fault = .cooling .loopLost (.loop l) s.uptime) ∧
              ((∀ l, raisedLoop l → f ∉ s.loopAffectedBy l) →
                ∃ c, raisedCircuit c ∧ f ∈ s.affectedBy c ∧ (∀ d, d < c → raisedCircuit d → f ∉ s.affectedBy d) ∧
                  q.fault = .cooling (code c) (.circuit c) s.uptime)) ∧
            ∀ y, tap = some y →
              q.fault = .tap .cooling y.id y.done (y.done + 1) s.uptime ∧ (∀ z ∈ t.queue, z.id ≠ y.id))

/-! ## Loop supply selection (chapter 8) -/

/-- SUPPLY HOLD: its refusals; the hold flag, and what it does to a return delay in EMERGENCY; nothing else changes. That a
byte above 1 is refused before an unconfigured loop is the model's choice (log entry 39). -/
def Obligations.SupplyHold : Prop :=
  ∀ (h : Hdr) (lb ob : Byte) (s : State), s.admits h .supplyHold 2 →
    let refused (e : Reason) : Prop :=
      exec (.supplyHold h lb ob) s = .next (s.answered h .supplyHold .refused (some e) .nothing)
    (4 ≤ lb.toNat ∨ 2 ≤ ob.toNat → refused .badField) ∧
    ∀ (l : LoopId) (on : Bool), finOf 4 lb = some l → yesNo ob = some on →
      (s.loopCfg l = none → refused .noSuch) ∧
      ∀ k, s.loopCfg l = some k →
        let r := s.loop l
        let healthy := r.primaryFails = 0 ∧ r.reading.isSome = true
        let q : Loop :=
          if r.state = .emergency ∧ on = true then { r with hold := true, healthySince := none, returnTimer := none }
          else if r.state = .emergency ∧ healthy then
            { r with hold := false, healthySince := some s.uptime, returnTimer := some k.returnDelay }
          else { r with hold := on }
        exec (.supplyHold h lb ob) s =
          .next ((s.setLoop l q).answered h .supplyHold .ok none (.loopHold r.state on q.healthySince))

/-- The two changes of a loop's supply state that come alone: SUPPLY TEST of a PRIMARY loop whose tank is available sets the
hold flag and enters EMERGENCY, and is refused otherwise; the return delay's expiry enters PRIMARY. The valve, the changed
flag, A and B follow, and the LOOP_SUPPLY notice; furnaces meet their new caps, and a reduction pass cuts the grants exactly
where B or a cap falls in RUNNING, the cap's fall judged between the event's beginning and its end (the model's choice, log
entry 9). That the expiry of a timer that does not run has no effect is the model's choice (log entry 5). -/
def Obligations.SupplyTestAndReturn : Prop :=
  (∀ (h : Hdr) (lb : Byte) (s : State), s.admits h .supplyTest 1 →
    (4 ≤ lb.toNat → exec (.supplyTest h lb) s = .next (s.answered h .supplyTest .refused (some .badField) .nothing)) ∧
    ∀ l, finOf 4 lb = some l → s.loopCfg l = none →
      exec (.supplyTest h lb) s = .next (s.answered h .supplyTest .refused (some .noSuch) .nothing)) ∧
  ∀ (s : State) (l : LoopId) (k : LoopCfg), s.loopCfg l = some k → DerivedSound s →
    let r := s.loop l
    let moved (hold : Bool) (new : LoopState) (valve : Valve) : State :=
      { s with loops := s.loops.set l { r with state := new, hold := hold, healthySince := none, returnTimer := none,
                                               changed := true }
               valves := s.valves.set l valve }
    let drawn (x : State) : State :=
      let draw := s.site.baseDraw + (loopIds.map x.pumpOf).sum
      { x with budget := { s.budget with draw := draw, site := s.budget.ceiling - draw } }
    let told (x : State) (new : LoopState) (cause : LoopCause) (valve : Valve) (hold : Bool) : State :=
      s.notify (.loopSupply ⟨l, r.state, new, cause, valve, r.reading, r.primaryFails, r.tankFails, hold,
        x.budget.draw, x.budget.site, s.loopAffectedBy l⟩)
    (∀ (h : Hdr) (lb : Byte), s.admits h .supplyTest 1 → finOf 4 lb = some l →
      (r.state = .primary → r.tankFails = 0 → r.reading.isSome = true →
        let x := drawn (moved true .emergency .emergency)
        ∃ t, exec (.supplyTest h lb) s = .next t ∧ Scheduled x t ∧ t.queue = s.queue ∧
          (∀ f, GrantsCut (s.part = .running ∧ lowered s t) s t f) ∧
          Answered (told x .emergency .test .emergency true) t h .supplyTest .ok none .nothing) ∧
      (r.state ≠ .primary ∨ r.tankFails ≠ 0 ∨ r.reading = none →
        exec (.supplyTest h lb) s = .next (s.answered h .supplyTest .refused (some .wrongState) .nothing))) ∧
    (r.state = .emergency → r.returnTimer.isSome = true →
      let x := drawn (moved r.hold .primary .primary)
      ∃ t, exec (.returnDelayExpiry l) s = .next t ∧ Scheduled x t ∧ t.queue = s.queue ∧
        (∀ f, GrantsCut (s.part = .running ∧ lowered s t) s t f) ∧
        Noticed (told x .primary .returnDelay .primary r.hold) t) ∧
    (r.returnTimer = none → exec (.returnDelayExpiry l) s = .next s)

/-! ## Trip requests (chapter 9) -/

/-- TRIP ROTATE moves the bottom pointer and nothing else. TRIP POLL returns the first PENDING source in poll order, the loops
in ascending order before the circuits from the one after the bottom pointer on, which becomes IN_SERVICE; with none PENDING,
the first circuit in rotating order with a transient mark, which is cleared; otherwise nothing, and nothing changes. -/
def Obligations.RotateAndPoll : Prop :=
  (∀ (h : Hdr) (b : Byte) (s : State), s.admits h .tripRotate 1 →
    (∀ c, finOf 16 b = some c →
      exec (.tripRotate h b) s = .next (({ s with bottom := c } : State).answered h .tripRotate .ok none (.bottom c))) ∧
    (finOf 16 b = none →
      exec (.tripRotate h b) s = .next (s.answered h .tripRotate .refused (some .badField) .nothing))) ∧
  ∀ (h : Hdr) (s : State), s.admits h .tripPoll 0 → DerivedSound s →
    let loopPends (l : LoopId) : Prop := (s.loopCfg l).isSome = true ∧ (s.loop l).request = .pending
    let pends (c : CircuitId) : Prop := (s.circuitCfg c).isSome = true ∧ (s.circuit c).request = .pending
    let marked (c : CircuitId) : Prop := (s.circuitCfg c).isSome = true ∧ (s.circuit c).transient = true
    let before (c d : CircuitId) : Prop := (c - s.bottom - 1).val < (d - s.bottom - 1).val
    let view (c : CircuitId) (k : CircuitCfg) : SourceView := .circuit c (s.circuit c).condition k.sensing
    (∀ l, loopPends l → (∀ m, m < l → ¬loopPends m) →
      let affected := s.loopAffectedBy l
      ∃ t, exec (.tripPoll h) s = .next t ∧ Scheduled (s.setLoop l { s.loop l with request := .inService }) t ∧
        Answered (s.notify (.trip ⟨.loop l (s.loop l).state, .polled .request h.port, .inService, false, false, affected,
            s.held⟩)) t h .tripPoll .ok none
          (.poll (some ⟨.request, .loop l (s.loop l).state, .inService, affected, s.held⟩))) ∧
    ((∀ l, ¬loopPends l) → ∀ c k, s.circuitCfg c = some k → pends c → (∀ d, before d c → ¬pends d) →
      let affected := s.affectedBy c
      ∃ t, exec (.tripPoll h) s = .next t ∧ Scheduled (s.setCircuit c { s.circuit c with request := .inService }) t ∧
        Answered (s.notify (.trip ⟨view c k, .polled .request h.port, .inService, (s.circuit c).masked,
            (s.circuit c).transient, affected, s.held⟩)) t h .tripPoll .ok none
          (.poll (some ⟨.request, view c k, .inService, affected, s.held⟩))) ∧
    ((∀ l, ¬loopPends l) → (∀ c, ¬pends c) → ∀ c k, s.circuitCfg c = some k → marked c →
      (∀ d, before d c → ¬marked d) →
      let affected := s.affectedBy c
      ∃ t, exec (.tripPoll h) s = .next t ∧ Scheduled (s.setCircuit c { s.circuit c with transient := false }) t ∧
        Answered (s.notify (.trip ⟨view c k, .polled .transient h.port, (s.circuit c).request, (s.circuit c).masked,
            false, affected, s.held⟩)) t h .tripPoll .ok none
          (.poll (some ⟨.transient, view c k, (s.circuit c).request, affected, s.held⟩))) ∧
    ((∀ l, ¬loopPends l) → (∀ c, ¬pends c) → (∀ c, ¬marked c) →
      exec (.tripPoll h) s = .next (s.answered h .tripPoll .ok none (.poll none)))

/-- TRIP CLEAR with its refusals: of no source, of one unconfigured, of a request not IN_SERVICE, and of a condition still
present. Of an IN_SERVICE request whose condition is gone, the request is NONE, and with auto-rotate a circuit's pointer
follows; the circuits of a cleared loop are re-judged and raise where they stand in TRIP or LOST, which writes no fault sense
record as their furnaces were trip-held before. The trip-held set is what is left. The CLEARED notice comes first, then the
RAISED ones in ascending order. -/
def Obligations.TripClear : Prop :=
  ∀ (h : Hdr) (b : Byte) (s : State), s.admits h .tripClear 1 →
    let refused (e : Reason) : Prop :=
      exec (.tripClear h b) s = .next (s.answered h .tripClear .refused (some e) .nothing)
    (sourceOf b = none → refused .badField) ∧
    (∀ c, sourceOf b = some (.circuit c) →
      let r := s.circuit c
      (s.circuitCfg c = none → refused .noSuch) ∧
      ∀ k, s.circuitCfg c = some k →
        (r.request ≠ .inService → refused .wrongState) ∧
        (r.request = .inService → r.condition.bad = true → refused .conditionPresent) ∧
        (r.request = .inService → r.condition.bad = false → PlantSound s → DerivedSound s →
          let bottom := if s.site.autoRotate then c else s.bottom
          let x : State := { s.setCircuit c { r with request := .none } with bottom := bottom }
          let cleared : TripNotice :=
            ⟨.circuit c r.condition k.sensing, .cleared h.port bottom, .none, r.masked, r.transient, s.affectedBy c,
              x.heldNow⟩
          ∃ t, exec (.tripClear h b) s = .next t ∧ Scheduled { x with held := x.heldNow } t ∧
            Answered (s.notify (.trip cleared)) t h .tripClear .ok none
              (.tripCleared (.circuit c) .none bottom [] x.heldNow))) ∧
    ∀ l, sourceOf b = some (.loop l) →
      let r := s.loop l
      (s.loopCfg l = none → refused .noSuch) ∧
      ((s.loopCfg l).isSome = true →
        (r.request ≠ .inService → refused .wrongState) ∧
        (r.request = .inService → r.state = .lost → refused .conditionPresent) ∧
        (r.request = .inService → r.state ≠ .lost → PlantSound s → DerivedSound s →
          let raises (c : CircuitId) : Bool :=
            (s.circuitCfg c).any (fun k => k.loop == l) && !(s.circuit c).masked && (s.circuit c).request == .none &&
              (s.circuit c).condition.bad
          let x : State :=
            { s.setLoop l { r with request := .none } with
              circuits := Vector.ofFn fun c =>
                if raises c then { s.circuit c with request := .pending, transient := false } else s.circuit c }
          let cleared : TripNotice :=
            ⟨.loop l r.state, .cleared h.port s.bottom, .none, false, false, s.loopAffectedBy l, x.heldNow⟩
          let raised (c : CircuitId) : TripNotice :=
            let code : CoolingCode := if (s.circuit c).condition = .lost then .circuitLost else .circuitTrip
            ⟨s.sourceView (.circuit c), .raised code [] [], .pending, false, false, s.affectedBy c, x.heldNow⟩
          let told := (circuitIds.filter raises).foldl (fun y c => y.notify (.trip (raised c))) (s.notify (.trip cleared))
          ∃ t, exec (.tripClear h b) s = .next t ∧ Scheduled { x with held := x.heldNow } t ∧
            Answered told t h .tripClear .ok none
              (.tripCleared (.loop l) .none s.bottom (circuitIds.filter raises) x.heldNow)))

/-- MASK and UNMASK refuse a byte that is no circuit and an unconfigured circuit. MASK of a circuit no furnace it affects
holds metal under: the mask is set, its request and mark are gone, and the MASKED notice is sent; with metal it is refused.
UNMASK: the mask is lifted with its UNMASKED notice and the circuit re-judged, raising, with its RAISED notice, where it
stands in TRIP or LOST. The trip-held set follows both. A request that finds the mask as it asks for changes nothing. -/
def Obligations.MaskUnmask : Prop :=
  ∀ (h : Hdr) (b : Byte) (s : State),
    let refused (e : Reason) : Prop :=
      (s.admits h .mask 1 → exec (.mask h b) s = .next (s.answered h .mask .refused (some e) .nothing)) ∧
      (s.admits h .unmask 1 → exec (.unmask h b) s = .next (s.answered h .unmask .refused (some e) .nothing))
    (finOf 16 b = none → refused .badField) ∧
    ∀ c, finOf 16 b = some c →
      (s.circuitCfg c = none → refused .noSuch) ∧
      ∀ k, s.circuitCfg c = some k → PlantSound s → DerivedSound s →
        let r := s.circuit c
        let view : SourceView := .circuit c r.condition k.sensing
        let affected := s.affectedBy c
        (s.admits h .mask 1 →
          ((∃ f, s.affects c f = true ∧ (s.furnace f).phase ≠ .empty) →
            exec (.mask h b) s = .next (s.answered h .mask .refused (some .interlock) .nothing)) ∧
          ((∀ f, s.affects c f = true → (s.furnace f).phase = .empty) →
            (r.masked = true →
              exec (.mask h b) s = .next (s.answered h .mask .ok none (.mask r.condition r.request s.held))) ∧
            (r.masked = false →
              let x := s.setCircuit c { r with masked := true, request := .none, transient := false }
              let told := s.notify (.trip ⟨view, .masked r.request, .none, true, false, affected, x.heldNow⟩)
              ∃ t, exec (.mask h b) s = .next t ∧ Scheduled { x with held := x.heldNow } t ∧
                Answered told t h .mask .ok none (.mask r.condition .none x.heldNow)))) ∧
        (s.admits h .unmask 1 →
          (r.masked = false →
            exec (.unmask h b) s = .next (s.answered h .unmask .ok none (.mask r.condition r.request s.held))) ∧
          (r.masked = true → (∀ f, s.affects c f = true → (s.furnace f).phase ≠ .tapping) →
            let raises := r.request = .none ∧ r.condition.bad = true ∧ s.loopFree c = true
            let x := s.setCircuit c
              (if raises then { r with masked := false, request := .pending, transient := false }
                else { r with masked := false })
            let code : CoolingCode := if r.condition = .lost then .circuitLost else .circuitTrip
            let written := if raises then affected.filter fun f => !s.isHeld f else []
            let bare := s.notify (.trip ⟨view, .unmasked .request, r.request, false, r.transient, affected, x.heldNow⟩)
            let told := if raises then
                bare.notify (.trip ⟨view, .raised code written [], .pending, false, false, affected, x.heldNow⟩)
              else bare
            ∃ t, exec (.unmask h b) s = .next t ∧
              Scheduled ((x.takeHeld x.heldNow).withFault written (.cooling code (.circuit c) s.uptime)) t ∧
              Answered told t h .unmask .ok none
                (.mask r.condition (if raises then .pending else r.request) x.heldNow)))

/-! ## The tap queue and tap execution (chapters 10 and 11) -/

/-- TAP REQUEST: its refusals in the order of R150, and the record that joins the queue in its place, behind the records of
its open time. With an open delay it is WAITING and nothing else happens; without one it is OPEN, and a matching pass
follows the reply. That the reply counts positions from 0 is the model's choice (log entry 24). The matching pass visits the
records that are OPEN at its start in queue order; a visited record with an eligible furnace is assigned to the one that
R159 chooses, and the matcher pointer moves past it; without one nothing happens. A reduction pass follows where the caps
fall between the pass's beginning and end (log entry 9). -/
def Obligations.TapRequest : Prop :=
  (∀ (h : Hdr) (b : TapBody) (s : State), s.admits h .tapRequest 14 → s.part = .running →
    let listed := [b.g0, b.g1, b.g2, b.g3].take b.count.toNat
    let inRange :=
      1 ≤ b.id.toNat ∧ 1 ≤ b.count.toNat ∧ b.count.toNat ≤ 4 ∧ 1 ≤ b.ladles.toNat ∧ b.ladles.toNat ≤ 8 ∧
      100 ≤ b.ladleMass.toNat ∧ b.ladleMass.toNat ≤ 10000 ∧ b.openDelay.toNat ≤ 7200 ∧ 60 ≤ b.window.toNat ∧
      b.window.toNat ≤ 3600 ∧ (∀ g ∈ listed, g.toNat < 16) ∧ listed.Nodup ∧ (b.pinned.toNat < 6 ∨ b.pinned = 0xFF)
    let refused (e : Reason) : Prop := exec (.tapRequest h b) s = .next (s.answered h .tapRequest .refused (some e) .nothing)
    (¬inRange → refused .badField) ∧
    ∀ (grades : List GradeId) (pin : Option FurnaceId), inRange → grades.map (·.val) = listed.map (·.toNat) →
      pin = finOf 6 b.pinned →
      let direct := ∃ p, pin = some p ∧ ∃ g : FurnaceId, s.standby[g] = some p
      ((∃ g ∈ grades, s.gradeCfg g = none) ∨ (∃ p, pin = some p ∧ s.configured p = false) → refused .noSuch) ∧
      ((∀ g ∈ grades, (s.gradeCfg g).isSome = true) → (∀ p, pin = some p → s.configured p = true) →
        ((∃ r ∈ s.queue, r.id = b.id.toNat) → refused .duplicate) ∧
        ((∀ r ∈ s.queue, r.id ≠ b.id.toNat) →
          (16 ≤ s.queue.length → refused .full) ∧
          (s.queue.length < 16 → direct → refused .standbyDirect) ∧
          (s.queue.length < 16 → ¬direct →
            let openAt := s.uptime + b.openDelay.toNat
            let closeAt := openAt + b.window.toNat
            let state : TapState := if b.openDelay = 0 then .opened else .waiting
            let r : Tap := ⟨b.id.toNat, state, grades, b.ladles.toNat, b.ladleMass.toNat, openAt, closeAt, pin, false, none,
              none, false, 0, false, false⟩
            ∃ ahead behind, s.queue = ahead ++ behind ∧ (∀ q ∈ ahead, q.openAt ≤ openAt) ∧
              (∀ q, behind.head? = some q → openAt < q.openAt) ∧
              let data : ReplyData := .tapTaken state openAt closeAt ahead.length
              let asked := ({ s with queue := ahead ++ r :: behind } : State).answered h .tapRequest .ok none data
              (b.openDelay ≠ 0 → exec (.tapRequest h b) s = .next asked) ∧
              (b.openDelay = 0 →
                ∃ t, exec (.tapRequest h b) s = .next t ∧ Scheduled asked t ∧
                  Settles (s.part = .running ∧ lowered asked asked.matchingPass) asked.matchingPass t ∧
                  PortKeeps (asked.port h.port) (t.port h.port) ∧
                  PortKeeps (asked.port h.port.other) (t.port h.port.other)))))) ∧
  (∀ s : State, s.matchingPass = ((s.queue.filter fun r => r.state = .opened).map (·.id)).foldl State.visitRecord s) ∧
  ∀ (s : State) (r : Tap),
    (∀ x, s.eligible x r = true ↔ ∃ c, s.furnaceCfg x = some c ∧
      let q := s.furnace x
      q.service = .inService ∧ (q.phase = .superheat ∨ q.phase = .holding) ∧ (∃ g, q.grade = some g ∧ g ∈ r.grades) ∧
      (∀ y ∈ s.queue, y.assigned = some x → y.id = r.id) ∧ c.heel + r.ladles * r.ladleMass ≤ q.mass ∧
      x ∉ s.held ∧ (s.supply c.supply).state ≠ .failed ∧ q.overheld = false ∧ q.approved = true ∧
      ∀ p, r.pinned = some p → p = x) ∧
    (PlantSound s → r ∈ s.queue → r.state = .opened →
      let t := s.visitRecord r.id
      ((∀ x, s.eligible x r = false) → t = s) ∧
      ((∃ x, s.eligible x r = true) →
        ∃ f g, Chosen s r f g ∧
          Assigns s t r f g r.pinned r.redirected (.assigned (s.furnace f).tapReady (s.furnace f).bath.estimate) ∧
          t.matcher = f + 1 ∧
          ∀ x, x ≠ f → t.furnace x = { s.furnace x with power := (t.furnace x).power }))

/-- A record's open time, its close time, its cancelling with its refusals, and its release. A WAITING record becomes OPEN.
An OPEN or ASSIGNED record expires, and any record not STARTED may be cancelled: it leaves the queue, its furnace is parted
from it, and its TAP notice is sent; then a matching pass runs, and a reduction pass where a cap has fallen from the event's
beginning to its end (log entry 9). A STARTED record is not cancelled. An ASSIGNED record whose furnace is no longer
eligible for it is released (R161): a pinned one whose furnace is trip-held or on a failed supply moves to the furnace's
standby, where that is eligible; any other is OPEN again. The guard by uptime (log entry 6), that an id of 0
is BAD_FIELD and no unknown id (log entry 39), and that RELEASED carries the blocking set judged before the parting (log
entry 14), is the model's choice; that the EXPIRED and CANCELLED notices show the record as parted from its furnace is read
from the spec (log entry 35). -/
def Obligations.OpenCloseCancel : Prop :=
  (∀ (h : Hdr) (b : Byte) (s : State), s.admits h .tapCancel 1 → s.part = .running →
    (b = 0 → exec (.tapCancel h b) s = .next (s.answered h .tapCancel .refused (some .badField) .nothing)) ∧
    (b ≠ 0 → (∀ r ∈ s.queue, r.id ≠ b.toNat) →
      exec (.tapCancel h b) s = .next (s.answered h .tapCancel .refused (some .noSuch) .nothing))) ∧
  ∀ (s : State) (r : Tap), PlantSound s → r ∈ s.queue →
    let parted (q : Tap) : Tap :=
      if r.state = .assigned then { q with assigned := none, chosen := none, downgraded := false } else q
    let released := if r.state = .assigned then r.assigned else none
    let gone : State :=
      { s with
        queue := s.queue.filter fun q => q.id != r.id
        furnaces := Vector.ofFn fun f =>
          if released = some f then { s.furnace f with assigned := none } else s.furnace f }
    let told (last : TapState) (e : TapEvent) : State :=
      let q := parted r
      s.notify (.tap ⟨r.id, last, r.pinned, r.redirected, q.assigned, q.chosen, q.downgraded, r.ladles, r.done, e⟩)
    let leaves (v : State) : Prop := Scheduled gone v ∧ v.matcher = s.matcher ∧ ∀ f, released = some f → Parted s v f
    (r.state = .waiting → r.openAt ≤ s.uptime →
      let opened : State :=
        { s with queue := s.queue.map fun q => if q.id = r.id then { q with state := .opened } else q }
      let u := opened.matchingPass
      ∃ t, exec (.openTime r.id) s = .next t ∧ Scheduled s t ∧ Noticed s t ∧
        Settles (s.part = .running ∧ lowered s u) u t ∧
        ∀ q ∈ t.queue, q.id = r.id → q.state = .opened ∨ q.state = .assigned) ∧
    (r.state = .opened ∨ r.state = .assigned → r.closeAt ≤ s.uptime →
      ∃ t, exec (.closeTime r.id) s = .next t ∧ Scheduled gone t ∧ ∃ v, leaves v ∧
        Noticed (told .expired (.expired released)) v ∧ Noticed v t ∧
        Settles (s.part = .running ∧ lowered s v.matchingPass) v.matchingPass t) ∧
    (∀ (h : Hdr) (b : Byte), s.admits h .tapCancel 1 → s.part = .running → b.toNat = r.id → b ≠ 0 →
      (r.state = .started →
        exec (.tapCancel h b) s = .next (s.answered h .tapCancel .refused (some .wrongState) .nothing)) ∧
      (r.state ≠ .started →
        ∃ t, exec (.tapCancel h b) s = .next t ∧ Scheduled gone t ∧
          Answered (told .cancelled (.cancelled r.state released)) t h .tapCancel .ok none
            (.tapCancelled r.state released) ∧
          ∃ v y, leaves v ∧ Noticed ((told .cancelled (.cancelled r.state released)).toHunt h.port) v ∧
            Settles (s.part = .running ∧ lowered s v.matchingPass) v.matchingPass y ∧
            t = y.formReply h Kind.tapCancel.code .ok none (.tapCancelled r.state released))) ∧
    ∀ f, r.state = .assigned → r.assigned = some f → s.eligible f r = false →
      let t := s.release r f
      let failed := s.isHeld f = true ∨ s.supplyFailed f = true
      let moves (x : FurnaceId) : Prop :=
        r.pinned.isSome = true ∧ failed ∧ s.standby[f] = some x ∧ s.eligible x { r with pinned := some x } = true
      Parted s t f ∧ t.matcher = s.matcher ∧
      (∀ x g, moves x → (s.furnace x).grade = some g →
        Assigns s t r x g (some x) true (.redirected f (if s.isHeld f then .cooling else .supply))) ∧
      ((∀ x, ¬moves x) →
        t.queue = s.queue.map (fun q =>
          if q.id = r.id then
            { r with state := .opened, assigned := none, chosen := none, downgraded := false, staleSent := false }
          else q) ∧
        Scheduled s t ∧
        ∃ why, s.ineligible f r = some why ∧
          Noticed (s.notify (.tap ⟨r.id, .opened, r.pinned, r.redirected, none, none, false, r.ladles, r.done,
            .released f (s.blockingNow f) why⟩)) t)

/-- STANDBY CLEAR and STANDBY SET complete wherever the part is RUNNING and they name configured furnaces, STANDBY SET where
its three checks pass, in their order: the standby of one furnace is written, and nothing else. An index out of range is
refused BAD_FIELD, before an unconfigured furnace NO_SUCH (the model's choice, log entry 39). A STANDBY SET that names the
standby f already has is taken and changes nothing; that one whose standby has become RELINE is refused all the same is the
model's choice (log entry 41). -/
def Obligations.Standby : Prop :=
  (∀ (h : Hdr) (fb xb : Byte) (s : State), s.part = .running →
    (s.admits h .standbyClear 1 →
      let refused (e : Reason) : Prop :=
        exec (.standbyClear h fb) s = .next (s.answered h .standbyClear .refused (some e) .nothing)
      (6 ≤ fb.toNat → refused .badField) ∧ ∀ f, finOf 6 fb = some f → s.configured f = false → refused .noSuch) ∧
    (s.admits h .standbySet 2 →
      let refused (e : Reason) : Prop :=
        exec (.standbySet h fb xb) s = .next (s.answered h .standbySet .refused (some e) .nothing)
      (6 ≤ fb.toNat ∨ 6 ≤ xb.toNat → refused .badField) ∧
      ∀ f x, finOf 6 fb = some f → finOf 6 xb = some x → s.configured f = false ∨ s.configured x = false →
        refused .noSuch)) ∧
  ∀ (h : Hdr) (fb : Byte) (s : State) (f : FurnaceId), s.part = .running → finOf 6 fb = some f → s.configured f = true →
    (s.admits h .standbyClear 1 →
      exec (.standbyClear h fb) s =
        .next (({ s with standby := s.standby.set f none } : State).answered h .standbyClear .ok none .nothing)) ∧
    (s.admits h .standbySet 2 → ∀ (xb : Byte) (x : FurnaceId), finOf 6 xb = some x → s.configured x = true →
      let refused (e : Reason) : Prop :=
        exec (.standbySet h fb xb) s = .next (s.answered h .standbySet .refused (some e) .nothing)
      let taken := (∃ g : FurnaceId, g ≠ f ∧ s.standby[g] = some x) ∨ (∃ g : FurnaceId, s.standby[g] = some f) ∨
        s.standby[x].isSome = true
      (x = f → refused .standbySelf) ∧
      (x ≠ f → taken → refused .standbyTaken) ∧
      (x ≠ f → ¬taken → (s.furnace x).service = .reline → refused .standbyUnfit) ∧
      (x ≠ f → ¬taken → (s.furnace x).service = .inService →
        exec (.standbySet h fb xb) s =
          .next (({ s with standby := s.standby.set f (some x) } : State).answered h .standbySet .ok none
            (.standby (some x)))))

/-- TAP START: its refusals in the order of R165. Of an ASSIGNED record with a blocking reason it is refused NOT_READY,
readiness evaluated all the same; with none the record is STARTED and its furnace TAPPING with grant 0, with the notices
STARTED and PHASE. What each of the twelve blocking reasons says, and what an evaluation of readiness does: the set and
TAP_READY are written, a change of TAP_READY sends a READINESS notice, and an assigned furnace blocked by DIP_STALE alone
sends one DIP_REQUEST for its assignment. That the READINESS notice comes before DIP_REQUEST is the model's choice (log
entry 12). -/
def Obligations.TapStart : Prop :=
  (∀ (h : Hdr) (b : Byte) (s : State), s.admits h .tapStart 1 → s.part = .running →
    let refused (e : Reason) (d : ReplyData) : Prop :=
      exec (.tapStart h b) s = .next (s.answered h .tapStart .refused (some e) d)
    (b = 0 → refused .badField .nothing) ∧
    (b ≠ 0 → (∀ r ∈ s.queue, r.id ≠ b.toNat) → refused .noSuch .nothing) ∧
    (b ≠ 0 → PlantSound s → ∀ r ∈ s.queue, r.id = b.toNat → r.state ≠ .assigned →
      refused .wrongState (.tapState r.state))) ∧
  (∀ (h : Hdr) (b : Byte) (s : State) (r : Tap) (f : FurnaceId),
    PlantSound s → s.admits h .tapStart 1 → s.part = .running → b ≠ 0 → r ∈ s.queue → r.id = b.toNat →
    r.state = .assigned → r.assigned = some f →
    let x := s.furnace f
    (s.blockingNow f ≠ [] →
      exec (.tapStart h b) s = .next ((s.evaluate f).answered h .tapStart .refused (some .notReady)
        (.notReady (s.blockingNow f) f x.bath.estimate))) ∧
    (s.blockingNow f = [] →
      let ready := if x.tapReady then s else s.notify (.readiness ⟨f, true, [], x.bath.estimate, some r.id⟩)
      let started := ready.notify (.tap ⟨r.id, .started, r.pinned, r.redirected, some f, r.chosen, r.downgraded, r.ladles,
        r.done, .started h.port x.mass⟩)
      let told := started.notify (.heat ⟨f, x.heatNo, .tapping, .phase .holding .tapping .tapStart⟩)
      ∃ t, exec (.tapStart h b) s = .next t ∧
        Scheduled { s with
          queue := s.queue.map fun q => if q.id = r.id then { q with state := .started } else q
          furnaces := s.furnaces.set f
            { x with phase := .tapping
                     power := { x.power with grant := 0, starvCounter := 0, starvLeft := none } } } t ∧
        (t.furnace f).assigned = some r.id ∧ (t.furnace f).setpoint = x.setpoint ∧
        (t.furnace f).power.effClass = x.power.setClass ∧
        (∀ q ∈ t.queue, q.id = r.id → q.state = .started ∧ q.assigned = some f ∧ q.chosen = r.chosen) ∧
        Answered told t h .tapStart .ok none (.tapStarted r.id f r.ladles r.ladleMass x.mass))) ∧
  ∀ (s : State) (f : FurnaceId) (c : FurnaceCfg), s.furnaceCfg f = some c →
    let x := s.furnace f
    let set := s.blockingNow f
    let grade (p : Nat → GradeCfg → Prop) : Prop := ∃ e, x.bath.estimate = some e ∧ ∃ g, s.heatGrade f = some g ∧ p e g
    (.outOfService ∈ set ↔ x.service = .reline) ∧
    (.notHolding ∈ set ↔ x.phase ≠ .holding) ∧
    (.tempLow ∈ set ↔ grade fun e g => e < (g.tap - g.bandLow) * 100) ∧
    (.tempHigh ∈ set ↔ grade fun e g => (g.tap + g.bandHigh) * 100 < e) ∧
    (.dipStale ∈ set ↔ ∀ d, x.bath.lastDip = some d → s.site.dipAge < s.uptime - d.stamp) ∧
    (.dipPending ∈ set ↔ x.bath.pendingDip ≠ none) ∧
    (.tempUnknown ∈ set ↔ x.tempUnknown = true) ∧
    (.chemPending ∈ set ↔ x.approved = false) ∧
    (.overheld ∈ set ↔ x.overheld = true) ∧
    (.cooling ∈ set ↔ f ∈ s.held) ∧
    (.supply ∈ set ↔ (s.supply c.supply).state = .failed) ∧
    (x.assigned = none → (.massLow ∈ set ↔ x.mass < c.heel)) ∧
    (PlantSound s → ∀ r ∈ s.queue, r.assigned = some f → (.massLow ∈ set ↔ x.mass < c.heel + r.ladleMass)) ∧
    (PlantSound s →
      let judged := s.setFurnace f { x with blocking := set, tapReady := set.isEmpty }
      let told := if x.tapReady = set.isEmpty then judged
        else judged.notify (.readiness ⟨f, set.isEmpty, set, x.bath.estimate, x.assigned⟩)
      let asks (r : Tap) : Prop :=
        r.assigned = some f ∧ r.state = .assigned ∧ r.staleSent = false ∧ set = [.dipStale]
      ((∀ r ∈ s.queue, ¬asks r) → s.evaluate f = told) ∧
      ∀ r ∈ s.queue, asks r → ∀ e, x.bath.estimate = some e →
        s.evaluate f =
          { told.notify (.heat ⟨f, x.heatNo, x.phase, .dipStale e (x.bath.lastDip.map (·.stamp)) r.id⟩) with
            queue := s.queue.map fun q => if q.id = r.id then { q with staleSent := true } else q })

/-- LADLE DONE and TAP END on a STARTED record, and their refusals. A ladle takes what it can from the mass and counts one;
it completes the tap at the last ladle, and terminates it with MASS where nothing is left or with TEMPERATURE after a soft
stop, written into the fault sense record. TAP END terminates it with HOST_END. A tap that has ended sends its COMPLETE or
TERMINATED notice, which shows the record as it ends (log entry 35), and leaves its furnace HOLDING, or emptied, with that
HEAT notice. That a field out of range is refused before the state of the record (log entry 39), and that the HEAT notice
CLOSED carries no heat number of its own (log entry 13), is the model's choice. -/
def Obligations.LadlesAndTapEnd : Prop :=
  (∀ (h : Hdr) (b : Byte) (s : State), s.part = .running →
    (s.admits h .ladleDone 3 → ∀ mass : Half,
      let refused (e : Reason) : Prop :=
        exec (.ladleDone h b mass) s = .next (s.answered h .ladleDone .refused (some e) .nothing)
      (b = 0 ∨ mass = 0 → refused .badField) ∧
      (b ≠ 0 → mass ≠ 0 → (∀ r ∈ s.queue, r.id = b.toNat → r.state ≠ .started) → refused .wrongState)) ∧
    (s.admits h .tapEnd 1 →
      let refused (e : Reason) : Prop := exec (.tapEnd h b) s = .next (s.answered h .tapEnd .refused (some e) .nothing)
      (b = 0 → refused .badField) ∧
      (b ≠ 0 → (∀ r ∈ s.queue, r.id = b.toNat → r.state ≠ .started) → refused .wrongState))) ∧
  ∀ (h : Hdr) (b : Byte) (s : State) (r : Tap) (f : FurnaceId),
    PlantSound s → s.part = .running → b ≠ 0 → r ∈ s.queue → r.id = b.toNat → r.state = .started → r.assigned = some f →
    let x := s.furnace f
    let others := s.queue.filter fun q => q.id != r.id
    let ends (y : State) (last : TapState) (done left : Nat) (e : TapEvent) : State :=
      let z := y.notify (.tap ⟨r.id, last, r.pinned, r.redirected, some f, r.chosen, r.downgraded, r.ladles, done, e⟩)
      if 0 < left then z.notify (.heat ⟨f, x.heatNo, .holding, .phase .tapping .holding .tapEnd⟩)
      else z.notify (.heat ⟨f, none, .empty,
        .closed ⟨f, x.heatNo, x.grade, true, left, x.energyWh, x.extensions, x.overheld⟩⟩)
    (s.admits h .ladleDone 3 → ∀ mass : Half, mass ≠ 0 →
      let counted := min mass.toNat x.mass
      let left := x.mass - counted
      let out : TapState × Option EndCode :=
        if r.done + 1 = r.ladles then (.complete, none)
        else if left = 0 then (.terminated, some .mass)
        else if r.softStop then (.terminated, some .temperature)
        else (.started, none)
      let poured := { x with mass := left }
      let after : Furnace :=
        match out.2 with
        | some .mass => { poured.tapped with fault := .tap .mass r.id (r.done + 1) (r.done + 2) s.uptime }
        | some _ => { poured.tapped with fault := .tap .temperature r.id (r.done + 1) (r.done + 2) s.uptime }
        | none => if out.1 = .started then poured else poured.tapped
      let ladle := s.notify (.tap ⟨r.id, .started, r.pinned, r.redirected, some f, r.chosen, r.downgraded, r.ladles,
        r.done + 1, .ladle mass.toNat counted left⟩)
      ∃ t, exec (.ladleDone h b mass) s = .next t ∧
        Scheduled { s with
          queue := if out.1 = .started then s.queue.map fun q => if q.id = r.id then { q with done := q.done + 1 } else q
            else others
          furnaces := s.furnaces.set f after } t ∧
        Answered (if out.1 = .started then ladle
            else ends ladle out.1 (r.done + 1) left
              (match out.2 with
                | some e => .terminated e (some (r.done + 2)) left
                | none => .complete left))
          t h .ladleDone (takenStatus (decide (counted < mass.toNat))) none (.ladle counted left (r.done + 1) out.1 out.2)) ∧
    (s.admits h .tapEnd 1 →
      ∃ t, exec (.tapEnd h b) s = .next t ∧
        Scheduled { s with queue := others, furnaces := s.furnaces.set f x.tapped } t ∧
        Answered (ends s .terminated r.done x.mass (.terminated .hostEnd none x.mass)) t h .tapEnd .ok none
          (.tapEnded r.done x.mass))
end

