-- ==== Sys2Proof/Laws/State.lean ====
section
/-! SUPPORT. For each update of the state, one lemma per field it leaves alone, and what it writes read back, so that no
later proof unfolds a record update. -/

namespace Sys2Proof.Machine

variable (s : State)

/-! ## setFurnace -/

@[simp] theorem State.setFurnace_part (f : FurnaceId) (r : Furnace) : (s.setFurnace f r).part = s.part := rfl
@[simp] theorem State.setFurnace_tables (f : FurnaceId) (r : Furnace) : (s.setFurnace f r).tables = s.tables := rfl
@[simp] theorem State.setFurnace_uptime (f : FurnaceId) (r : Furnace) : (s.setFurnace f r).uptime = s.uptime := rfl
@[simp] theorem State.setFurnace_budget (f : FurnaceId) (r : Furnace) : (s.setFurnace f r).budget = s.budget := rfl
@[simp] theorem State.setFurnace_modelTimers (f : FurnaceId) (r : Furnace) : (s.setFurnace f r).modelTimers = s.modelTimers := rfl
@[simp] theorem State.setFurnace_rotation (f : FurnaceId) (r : Furnace) : (s.setFurnace f r).rotation = s.rotation := rfl
@[simp] theorem State.setFurnace_floor (f : FurnaceId) (r : Furnace) : (s.setFurnace f r).floor = s.floor := rfl
@[simp] theorem State.setFurnace_periodTimer (f : FurnaceId) (r : Furnace) : (s.setFurnace f r).periodTimer = s.periodTimer := rfl
@[simp] theorem State.setFurnace_supplies (f : FurnaceId) (r : Furnace) : (s.setFurnace f r).supplies = s.supplies := rfl
@[simp] theorem State.setFurnace_inputs (f : FurnaceId) (r : Furnace) : (s.setFurnace f r).inputs = s.inputs := rfl
@[simp] theorem State.setFurnace_line (f : FurnaceId) (r : Furnace) : (s.setFurnace f r).line = s.line := rfl
@[simp] theorem State.setFurnace_scanTimer (f : FurnaceId) (r : Furnace) : (s.setFurnace f r).scanTimer = s.scanTimer := rfl
@[simp] theorem State.setFurnace_lastScan (f : FurnaceId) (r : Furnace) : (s.setFurnace f r).lastScan = s.lastScan := rfl
@[simp] theorem State.setFurnace_circuits (f : FurnaceId) (r : Furnace) : (s.setFurnace f r).circuits = s.circuits := rfl
@[simp] theorem State.setFurnace_loops (f : FurnaceId) (r : Furnace) : (s.setFurnace f r).loops = s.loops := rfl
@[simp] theorem State.setFurnace_valves (f : FurnaceId) (r : Furnace) : (s.setFurnace f r).valves = s.valves := rfl
@[simp] theorem State.setFurnace_bottom (f : FurnaceId) (r : Furnace) : (s.setFurnace f r).bottom = s.bottom := rfl
@[simp] theorem State.setFurnace_held (f : FurnaceId) (r : Furnace) : (s.setFurnace f r).held = s.held := rfl
@[simp] theorem State.setFurnace_queue (f : FurnaceId) (r : Furnace) : (s.setFurnace f r).queue = s.queue := rfl
@[simp] theorem State.setFurnace_standby (f : FurnaceId) (r : Furnace) : (s.setFurnace f r).standby = s.standby := rfl
@[simp] theorem State.setFurnace_matcher (f : FurnaceId) (r : Furnace) : (s.setFurnace f r).matcher = s.matcher := rfl
@[simp] theorem State.setFurnace_sup (f : FurnaceId) (r : Furnace) : (s.setFurnace f r).sup = s.sup := rfl
@[simp] theorem State.setFurnace_deck (f : FurnaceId) (r : Furnace) : (s.setFurnace f r).deck = s.deck := rfl
@[simp] theorem State.setFurnace_freeCount (f : FurnaceId) (r : Furnace) : (s.setFurnace f r).freeCount = s.freeCount := rfl
@[simp] theorem State.setFurnace_pending (f : FurnaceId) (r : Furnace) : (s.setFurnace f r).pending = s.pending := rfl

/-! ## setSupply -/

@[simp] theorem State.setSupply_part (u : SupplyId) (r : Supply) : (s.setSupply u r).part = s.part := rfl
@[simp] theorem State.setSupply_tables (u : SupplyId) (r : Supply) : (s.setSupply u r).tables = s.tables := rfl
@[simp] theorem State.setSupply_uptime (u : SupplyId) (r : Supply) : (s.setSupply u r).uptime = s.uptime := rfl
@[simp] theorem State.setSupply_budget (u : SupplyId) (r : Supply) : (s.setSupply u r).budget = s.budget := rfl
@[simp] theorem State.setSupply_furnaces (u : SupplyId) (r : Supply) : (s.setSupply u r).furnaces = s.furnaces := rfl
@[simp] theorem State.setSupply_modelTimers (u : SupplyId) (r : Supply) : (s.setSupply u r).modelTimers = s.modelTimers := rfl
@[simp] theorem State.setSupply_rotation (u : SupplyId) (r : Supply) : (s.setSupply u r).rotation = s.rotation := rfl
@[simp] theorem State.setSupply_floor (u : SupplyId) (r : Supply) : (s.setSupply u r).floor = s.floor := rfl
@[simp] theorem State.setSupply_periodTimer (u : SupplyId) (r : Supply) : (s.setSupply u r).periodTimer = s.periodTimer := rfl
@[simp] theorem State.setSupply_inputs (u : SupplyId) (r : Supply) : (s.setSupply u r).inputs = s.inputs := rfl
@[simp] theorem State.setSupply_line (u : SupplyId) (r : Supply) : (s.setSupply u r).line = s.line := rfl
@[simp] theorem State.setSupply_scanTimer (u : SupplyId) (r : Supply) : (s.setSupply u r).scanTimer = s.scanTimer := rfl
@[simp] theorem State.setSupply_lastScan (u : SupplyId) (r : Supply) : (s.setSupply u r).lastScan = s.lastScan := rfl
@[simp] theorem State.setSupply_circuits (u : SupplyId) (r : Supply) : (s.setSupply u r).circuits = s.circuits := rfl
@[simp] theorem State.setSupply_loops (u : SupplyId) (r : Supply) : (s.setSupply u r).loops = s.loops := rfl
@[simp] theorem State.setSupply_valves (u : SupplyId) (r : Supply) : (s.setSupply u r).valves = s.valves := rfl
@[simp] theorem State.setSupply_bottom (u : SupplyId) (r : Supply) : (s.setSupply u r).bottom = s.bottom := rfl
@[simp] theorem State.setSupply_held (u : SupplyId) (r : Supply) : (s.setSupply u r).held = s.held := rfl
@[simp] theorem State.setSupply_queue (u : SupplyId) (r : Supply) : (s.setSupply u r).queue = s.queue := rfl
@[simp] theorem State.setSupply_standby (u : SupplyId) (r : Supply) : (s.setSupply u r).standby = s.standby := rfl
@[simp] theorem State.setSupply_matcher (u : SupplyId) (r : Supply) : (s.setSupply u r).matcher = s.matcher := rfl
@[simp] theorem State.setSupply_sup (u : SupplyId) (r : Supply) : (s.setSupply u r).sup = s.sup := rfl
@[simp] theorem State.setSupply_deck (u : SupplyId) (r : Supply) : (s.setSupply u r).deck = s.deck := rfl
@[simp] theorem State.setSupply_freeCount (u : SupplyId) (r : Supply) : (s.setSupply u r).freeCount = s.freeCount := rfl
@[simp] theorem State.setSupply_pending (u : SupplyId) (r : Supply) : (s.setSupply u r).pending = s.pending := rfl

/-! ## setCircuit -/

@[simp] theorem State.setCircuit_part (c : CircuitId) (r : Circuit) : (s.setCircuit c r).part = s.part := rfl
@[simp] theorem State.setCircuit_tables (c : CircuitId) (r : Circuit) : (s.setCircuit c r).tables = s.tables := rfl
@[simp] theorem State.setCircuit_uptime (c : CircuitId) (r : Circuit) : (s.setCircuit c r).uptime = s.uptime := rfl
@[simp] theorem State.setCircuit_budget (c : CircuitId) (r : Circuit) : (s.setCircuit c r).budget = s.budget := rfl
@[simp] theorem State.setCircuit_furnaces (c : CircuitId) (r : Circuit) : (s.setCircuit c r).furnaces = s.furnaces := rfl
@[simp] theorem State.setCircuit_modelTimers (c : CircuitId) (r : Circuit) : (s.setCircuit c r).modelTimers = s.modelTimers := rfl
@[simp] theorem State.setCircuit_rotation (c : CircuitId) (r : Circuit) : (s.setCircuit c r).rotation = s.rotation := rfl
@[simp] theorem State.setCircuit_floor (c : CircuitId) (r : Circuit) : (s.setCircuit c r).floor = s.floor := rfl
@[simp] theorem State.setCircuit_periodTimer (c : CircuitId) (r : Circuit) : (s.setCircuit c r).periodTimer = s.periodTimer := rfl
@[simp] theorem State.setCircuit_supplies (c : CircuitId) (r : Circuit) : (s.setCircuit c r).supplies = s.supplies := rfl
@[simp] theorem State.setCircuit_inputs (c : CircuitId) (r : Circuit) : (s.setCircuit c r).inputs = s.inputs := rfl
@[simp] theorem State.setCircuit_line (c : CircuitId) (r : Circuit) : (s.setCircuit c r).line = s.line := rfl
@[simp] theorem State.setCircuit_scanTimer (c : CircuitId) (r : Circuit) : (s.setCircuit c r).scanTimer = s.scanTimer := rfl
@[simp] theorem State.setCircuit_lastScan (c : CircuitId) (r : Circuit) : (s.setCircuit c r).lastScan = s.lastScan := rfl
@[simp] theorem State.setCircuit_loops (c : CircuitId) (r : Circuit) : (s.setCircuit c r).loops = s.loops := rfl
@[simp] theorem State.setCircuit_valves (c : CircuitId) (r : Circuit) : (s.setCircuit c r).valves = s.valves := rfl
@[simp] theorem State.setCircuit_bottom (c : CircuitId) (r : Circuit) : (s.setCircuit c r).bottom = s.bottom := rfl
@[simp] theorem State.setCircuit_held (c : CircuitId) (r : Circuit) : (s.setCircuit c r).held = s.held := rfl
@[simp] theorem State.setCircuit_queue (c : CircuitId) (r : Circuit) : (s.setCircuit c r).queue = s.queue := rfl
@[simp] theorem State.setCircuit_standby (c : CircuitId) (r : Circuit) : (s.setCircuit c r).standby = s.standby := rfl
@[simp] theorem State.setCircuit_matcher (c : CircuitId) (r : Circuit) : (s.setCircuit c r).matcher = s.matcher := rfl
@[simp] theorem State.setCircuit_sup (c : CircuitId) (r : Circuit) : (s.setCircuit c r).sup = s.sup := rfl
@[simp] theorem State.setCircuit_deck (c : CircuitId) (r : Circuit) : (s.setCircuit c r).deck = s.deck := rfl
@[simp] theorem State.setCircuit_freeCount (c : CircuitId) (r : Circuit) : (s.setCircuit c r).freeCount = s.freeCount := rfl
@[simp] theorem State.setCircuit_pending (c : CircuitId) (r : Circuit) : (s.setCircuit c r).pending = s.pending := rfl

/-! ## setLoop -/

@[simp] theorem State.setLoop_part (l : LoopId) (r : Loop) : (s.setLoop l r).part = s.part := rfl
@[simp] theorem State.setLoop_tables (l : LoopId) (r : Loop) : (s.setLoop l r).tables = s.tables := rfl
@[simp] theorem State.setLoop_uptime (l : LoopId) (r : Loop) : (s.setLoop l r).uptime = s.uptime := rfl
@[simp] theorem State.setLoop_budget (l : LoopId) (r : Loop) : (s.setLoop l r).budget = s.budget := rfl
@[simp] theorem State.setLoop_furnaces (l : LoopId) (r : Loop) : (s.setLoop l r).furnaces = s.furnaces := rfl
@[simp] theorem State.setLoop_modelTimers (l : LoopId) (r : Loop) : (s.setLoop l r).modelTimers = s.modelTimers := rfl
@[simp] theorem State.setLoop_rotation (l : LoopId) (r : Loop) : (s.setLoop l r).rotation = s.rotation := rfl
@[simp] theorem State.setLoop_floor (l : LoopId) (r : Loop) : (s.setLoop l r).floor = s.floor := rfl
@[simp] theorem State.setLoop_periodTimer (l : LoopId) (r : Loop) : (s.setLoop l r).periodTimer = s.periodTimer := rfl
@[simp] theorem State.setLoop_supplies (l : LoopId) (r : Loop) : (s.setLoop l r).supplies = s.supplies := rfl
@[simp] theorem State.setLoop_inputs (l : LoopId) (r : Loop) : (s.setLoop l r).inputs = s.inputs := rfl
@[simp] theorem State.setLoop_line (l : LoopId) (r : Loop) : (s.setLoop l r).line = s.line := rfl
@[simp] theorem State.setLoop_scanTimer (l : LoopId) (r : Loop) : (s.setLoop l r).scanTimer = s.scanTimer := rfl
@[simp] theorem State.setLoop_lastScan (l : LoopId) (r : Loop) : (s.setLoop l r).lastScan = s.lastScan := rfl
@[simp] theorem State.setLoop_circuits (l : LoopId) (r : Loop) : (s.setLoop l r).circuits = s.circuits := rfl
@[simp] theorem State.setLoop_valves (l : LoopId) (r : Loop) : (s.setLoop l r).valves = s.valves := rfl
@[simp] theorem State.setLoop_bottom (l : LoopId) (r : Loop) : (s.setLoop l r).bottom = s.bottom := rfl
@[simp] theorem State.setLoop_held (l : LoopId) (r : Loop) : (s.setLoop l r).held = s.held := rfl
@[simp] theorem State.setLoop_queue (l : LoopId) (r : Loop) : (s.setLoop l r).queue = s.queue := rfl
@[simp] theorem State.setLoop_standby (l : LoopId) (r : Loop) : (s.setLoop l r).standby = s.standby := rfl
@[simp] theorem State.setLoop_matcher (l : LoopId) (r : Loop) : (s.setLoop l r).matcher = s.matcher := rfl
@[simp] theorem State.setLoop_sup (l : LoopId) (r : Loop) : (s.setLoop l r).sup = s.sup := rfl
@[simp] theorem State.setLoop_deck (l : LoopId) (r : Loop) : (s.setLoop l r).deck = s.deck := rfl
@[simp] theorem State.setLoop_freeCount (l : LoopId) (r : Loop) : (s.setLoop l r).freeCount = s.freeCount := rfl
@[simp] theorem State.setLoop_pending (l : LoopId) (r : Loop) : (s.setLoop l r).pending = s.pending := rfl

/-! ## driveValve -/

@[simp] theorem State.driveValve_part (l : LoopId) (v : Valve) : (s.driveValve l v).part = s.part := rfl
@[simp] theorem State.driveValve_tables (l : LoopId) (v : Valve) : (s.driveValve l v).tables = s.tables := rfl
@[simp] theorem State.driveValve_uptime (l : LoopId) (v : Valve) : (s.driveValve l v).uptime = s.uptime := rfl
@[simp] theorem State.driveValve_budget (l : LoopId) (v : Valve) : (s.driveValve l v).budget = s.budget := rfl
@[simp] theorem State.driveValve_furnaces (l : LoopId) (v : Valve) : (s.driveValve l v).furnaces = s.furnaces := rfl
@[simp] theorem State.driveValve_modelTimers (l : LoopId) (v : Valve) : (s.driveValve l v).modelTimers = s.modelTimers := rfl
@[simp] theorem State.driveValve_rotation (l : LoopId) (v : Valve) : (s.driveValve l v).rotation = s.rotation := rfl
@[simp] theorem State.driveValve_floor (l : LoopId) (v : Valve) : (s.driveValve l v).floor = s.floor := rfl
@[simp] theorem State.driveValve_periodTimer (l : LoopId) (v : Valve) : (s.driveValve l v).periodTimer = s.periodTimer := rfl
@[simp] theorem State.driveValve_supplies (l : LoopId) (v : Valve) : (s.driveValve l v).supplies = s.supplies := rfl
@[simp] theorem State.driveValve_inputs (l : LoopId) (v : Valve) : (s.driveValve l v).inputs = s.inputs := rfl
@[simp] theorem State.driveValve_line (l : LoopId) (v : Valve) : (s.driveValve l v).line = s.line := rfl
@[simp] theorem State.driveValve_scanTimer (l : LoopId) (v : Valve) : (s.driveValve l v).scanTimer = s.scanTimer := rfl
@[simp] theorem State.driveValve_lastScan (l : LoopId) (v : Valve) : (s.driveValve l v).lastScan = s.lastScan := rfl
@[simp] theorem State.driveValve_circuits (l : LoopId) (v : Valve) : (s.driveValve l v).circuits = s.circuits := rfl
@[simp] theorem State.driveValve_loops (l : LoopId) (v : Valve) : (s.driveValve l v).loops = s.loops := rfl
@[simp] theorem State.driveValve_bottom (l : LoopId) (v : Valve) : (s.driveValve l v).bottom = s.bottom := rfl
@[simp] theorem State.driveValve_held (l : LoopId) (v : Valve) : (s.driveValve l v).held = s.held := rfl
@[simp] theorem State.driveValve_queue (l : LoopId) (v : Valve) : (s.driveValve l v).queue = s.queue := rfl
@[simp] theorem State.driveValve_standby (l : LoopId) (v : Valve) : (s.driveValve l v).standby = s.standby := rfl
@[simp] theorem State.driveValve_matcher (l : LoopId) (v : Valve) : (s.driveValve l v).matcher = s.matcher := rfl
@[simp] theorem State.driveValve_sup (l : LoopId) (v : Valve) : (s.driveValve l v).sup = s.sup := rfl
@[simp] theorem State.driveValve_deck (l : LoopId) (v : Valve) : (s.driveValve l v).deck = s.deck := rfl
@[simp] theorem State.driveValve_freeCount (l : LoopId) (v : Valve) : (s.driveValve l v).freeCount = s.freeCount := rfl
@[simp] theorem State.driveValve_pending (l : LoopId) (v : Valve) : (s.driveValve l v).pending = s.pending := rfl

/-! ## setInputs -/

@[simp] theorem State.setInputs_part (u : SupplyId) (i : Inputs) : (s.setInputs u i).part = s.part := rfl
@[simp] theorem State.setInputs_tables (u : SupplyId) (i : Inputs) : (s.setInputs u i).tables = s.tables := rfl
@[simp] theorem State.setInputs_uptime (u : SupplyId) (i : Inputs) : (s.setInputs u i).uptime = s.uptime := rfl
@[simp] theorem State.setInputs_budget (u : SupplyId) (i : Inputs) : (s.setInputs u i).budget = s.budget := rfl
@[simp] theorem State.setInputs_furnaces (u : SupplyId) (i : Inputs) : (s.setInputs u i).furnaces = s.furnaces := rfl
@[simp] theorem State.setInputs_modelTimers (u : SupplyId) (i : Inputs) : (s.setInputs u i).modelTimers = s.modelTimers := rfl
@[simp] theorem State.setInputs_rotation (u : SupplyId) (i : Inputs) : (s.setInputs u i).rotation = s.rotation := rfl
@[simp] theorem State.setInputs_floor (u : SupplyId) (i : Inputs) : (s.setInputs u i).floor = s.floor := rfl
@[simp] theorem State.setInputs_periodTimer (u : SupplyId) (i : Inputs) : (s.setInputs u i).periodTimer = s.periodTimer := rfl
@[simp] theorem State.setInputs_supplies (u : SupplyId) (i : Inputs) : (s.setInputs u i).supplies = s.supplies := rfl
@[simp] theorem State.setInputs_line (u : SupplyId) (i : Inputs) : (s.setInputs u i).line = s.line := rfl
@[simp] theorem State.setInputs_scanTimer (u : SupplyId) (i : Inputs) : (s.setInputs u i).scanTimer = s.scanTimer := rfl
@[simp] theorem State.setInputs_lastScan (u : SupplyId) (i : Inputs) : (s.setInputs u i).lastScan = s.lastScan := rfl
@[simp] theorem State.setInputs_circuits (u : SupplyId) (i : Inputs) : (s.setInputs u i).circuits = s.circuits := rfl
@[simp] theorem State.setInputs_loops (u : SupplyId) (i : Inputs) : (s.setInputs u i).loops = s.loops := rfl
@[simp] theorem State.setInputs_valves (u : SupplyId) (i : Inputs) : (s.setInputs u i).valves = s.valves := rfl
@[simp] theorem State.setInputs_bottom (u : SupplyId) (i : Inputs) : (s.setInputs u i).bottom = s.bottom := rfl
@[simp] theorem State.setInputs_held (u : SupplyId) (i : Inputs) : (s.setInputs u i).held = s.held := rfl
@[simp] theorem State.setInputs_queue (u : SupplyId) (i : Inputs) : (s.setInputs u i).queue = s.queue := rfl
@[simp] theorem State.setInputs_standby (u : SupplyId) (i : Inputs) : (s.setInputs u i).standby = s.standby := rfl
@[simp] theorem State.setInputs_matcher (u : SupplyId) (i : Inputs) : (s.setInputs u i).matcher = s.matcher := rfl
@[simp] theorem State.setInputs_sup (u : SupplyId) (i : Inputs) : (s.setInputs u i).sup = s.sup := rfl
@[simp] theorem State.setInputs_deck (u : SupplyId) (i : Inputs) : (s.setInputs u i).deck = s.deck := rfl
@[simp] theorem State.setInputs_freeCount (u : SupplyId) (i : Inputs) : (s.setInputs u i).freeCount = s.freeCount := rfl
@[simp] theorem State.setInputs_pending (u : SupplyId) (i : Inputs) : (s.setInputs u i).pending = s.pending := rfl

/-! ## setStandby -/

@[simp] theorem State.setStandby_part (f : FurnaceId) (x : Option FurnaceId) : (s.setStandby f x).part = s.part := rfl
@[simp] theorem State.setStandby_tables (f : FurnaceId) (x : Option FurnaceId) : (s.setStandby f x).tables = s.tables := rfl
@[simp] theorem State.setStandby_uptime (f : FurnaceId) (x : Option FurnaceId) : (s.setStandby f x).uptime = s.uptime := rfl
@[simp] theorem State.setStandby_budget (f : FurnaceId) (x : Option FurnaceId) : (s.setStandby f x).budget = s.budget := rfl
@[simp] theorem State.setStandby_furnaces (f : FurnaceId) (x : Option FurnaceId) : (s.setStandby f x).furnaces = s.furnaces := rfl
@[simp] theorem State.setStandby_modelTimers (f : FurnaceId) (x : Option FurnaceId) : (s.setStandby f x).modelTimers = s.modelTimers := rfl
@[simp] theorem State.setStandby_rotation (f : FurnaceId) (x : Option FurnaceId) : (s.setStandby f x).rotation = s.rotation := rfl
@[simp] theorem State.setStandby_floor (f : FurnaceId) (x : Option FurnaceId) : (s.setStandby f x).floor = s.floor := rfl
@[simp] theorem State.setStandby_periodTimer (f : FurnaceId) (x : Option FurnaceId) : (s.setStandby f x).periodTimer = s.periodTimer := rfl
@[simp] theorem State.setStandby_supplies (f : FurnaceId) (x : Option FurnaceId) : (s.setStandby f x).supplies = s.supplies := rfl
@[simp] theorem State.setStandby_inputs (f : FurnaceId) (x : Option FurnaceId) : (s.setStandby f x).inputs = s.inputs := rfl
@[simp] theorem State.setStandby_line (f : FurnaceId) (x : Option FurnaceId) : (s.setStandby f x).line = s.line := rfl
@[simp] theorem State.setStandby_scanTimer (f : FurnaceId) (x : Option FurnaceId) : (s.setStandby f x).scanTimer = s.scanTimer := rfl
@[simp] theorem State.setStandby_lastScan (f : FurnaceId) (x : Option FurnaceId) : (s.setStandby f x).lastScan = s.lastScan := rfl
@[simp] theorem State.setStandby_circuits (f : FurnaceId) (x : Option FurnaceId) : (s.setStandby f x).circuits = s.circuits := rfl
@[simp] theorem State.setStandby_loops (f : FurnaceId) (x : Option FurnaceId) : (s.setStandby f x).loops = s.loops := rfl
@[simp] theorem State.setStandby_valves (f : FurnaceId) (x : Option FurnaceId) : (s.setStandby f x).valves = s.valves := rfl
@[simp] theorem State.setStandby_bottom (f : FurnaceId) (x : Option FurnaceId) : (s.setStandby f x).bottom = s.bottom := rfl
@[simp] theorem State.setStandby_held (f : FurnaceId) (x : Option FurnaceId) : (s.setStandby f x).held = s.held := rfl
@[simp] theorem State.setStandby_queue (f : FurnaceId) (x : Option FurnaceId) : (s.setStandby f x).queue = s.queue := rfl
@[simp] theorem State.setStandby_matcher (f : FurnaceId) (x : Option FurnaceId) : (s.setStandby f x).matcher = s.matcher := rfl
@[simp] theorem State.setStandby_sup (f : FurnaceId) (x : Option FurnaceId) : (s.setStandby f x).sup = s.sup := rfl
@[simp] theorem State.setStandby_deck (f : FurnaceId) (x : Option FurnaceId) : (s.setStandby f x).deck = s.deck := rfl
@[simp] theorem State.setStandby_freeCount (f : FurnaceId) (x : Option FurnaceId) : (s.setStandby f x).freeCount = s.freeCount := rfl
@[simp] theorem State.setStandby_pending (f : FurnaceId) (x : Option FurnaceId) : (s.setStandby f x).pending = s.pending := rfl

/-! ## recomputeBudget -/

@[simp] theorem State.recomputeBudget_part : (s.recomputeBudget).part = s.part := rfl
@[simp] theorem State.recomputeBudget_tables : (s.recomputeBudget).tables = s.tables := rfl
@[simp] theorem State.recomputeBudget_uptime : (s.recomputeBudget).uptime = s.uptime := rfl
@[simp] theorem State.recomputeBudget_furnaces : (s.recomputeBudget).furnaces = s.furnaces := rfl
@[simp] theorem State.recomputeBudget_modelTimers : (s.recomputeBudget).modelTimers = s.modelTimers := rfl
@[simp] theorem State.recomputeBudget_rotation : (s.recomputeBudget).rotation = s.rotation := rfl
@[simp] theorem State.recomputeBudget_floor : (s.recomputeBudget).floor = s.floor := rfl
@[simp] theorem State.recomputeBudget_periodTimer : (s.recomputeBudget).periodTimer = s.periodTimer := rfl
@[simp] theorem State.recomputeBudget_supplies : (s.recomputeBudget).supplies = s.supplies := rfl
@[simp] theorem State.recomputeBudget_inputs : (s.recomputeBudget).inputs = s.inputs := rfl
@[simp] theorem State.recomputeBudget_line : (s.recomputeBudget).line = s.line := rfl
@[simp] theorem State.recomputeBudget_scanTimer : (s.recomputeBudget).scanTimer = s.scanTimer := rfl
@[simp] theorem State.recomputeBudget_lastScan : (s.recomputeBudget).lastScan = s.lastScan := rfl
@[simp] theorem State.recomputeBudget_circuits : (s.recomputeBudget).circuits = s.circuits := rfl
@[simp] theorem State.recomputeBudget_loops : (s.recomputeBudget).loops = s.loops := rfl
@[simp] theorem State.recomputeBudget_valves : (s.recomputeBudget).valves = s.valves := rfl
@[simp] theorem State.recomputeBudget_bottom : (s.recomputeBudget).bottom = s.bottom := rfl
@[simp] theorem State.recomputeBudget_held : (s.recomputeBudget).held = s.held := rfl
@[simp] theorem State.recomputeBudget_queue : (s.recomputeBudget).queue = s.queue := rfl
@[simp] theorem State.recomputeBudget_standby : (s.recomputeBudget).standby = s.standby := rfl
@[simp] theorem State.recomputeBudget_matcher : (s.recomputeBudget).matcher = s.matcher := rfl
@[simp] theorem State.recomputeBudget_sup : (s.recomputeBudget).sup = s.sup := rfl
@[simp] theorem State.recomputeBudget_deck : (s.recomputeBudget).deck = s.deck := rfl
@[simp] theorem State.recomputeBudget_freeCount : (s.recomputeBudget).freeCount = s.freeCount := rfl
@[simp] theorem State.recomputeBudget_pending : (s.recomputeBudget).pending = s.pending := rfl

/-! ## takeFloor -/

@[simp] theorem State.takeFloor_part : s.takeFloor.part = s.part := rfl
@[simp] theorem State.takeFloor_tables : s.takeFloor.tables = s.tables := rfl
@[simp] theorem State.takeFloor_uptime : s.takeFloor.uptime = s.uptime := rfl
@[simp] theorem State.takeFloor_budget : s.takeFloor.budget = s.budget := rfl
@[simp] theorem State.takeFloor_furnaces : s.takeFloor.furnaces = s.furnaces := rfl
@[simp] theorem State.takeFloor_modelTimers : s.takeFloor.modelTimers = s.modelTimers := rfl
@[simp] theorem State.takeFloor_rotation : s.takeFloor.rotation = s.rotation := rfl
@[simp] theorem State.takeFloor_periodTimer : s.takeFloor.periodTimer = s.periodTimer := rfl
@[simp] theorem State.takeFloor_supplies : s.takeFloor.supplies = s.supplies := rfl
@[simp] theorem State.takeFloor_inputs : s.takeFloor.inputs = s.inputs := rfl
@[simp] theorem State.takeFloor_line : s.takeFloor.line = s.line := rfl
@[simp] theorem State.takeFloor_scanTimer : s.takeFloor.scanTimer = s.scanTimer := rfl
@[simp] theorem State.takeFloor_lastScan : s.takeFloor.lastScan = s.lastScan := rfl
@[simp] theorem State.takeFloor_circuits : s.takeFloor.circuits = s.circuits := rfl
@[simp] theorem State.takeFloor_loops : s.takeFloor.loops = s.loops := rfl
@[simp] theorem State.takeFloor_valves : s.takeFloor.valves = s.valves := rfl
@[simp] theorem State.takeFloor_bottom : s.takeFloor.bottom = s.bottom := rfl
@[simp] theorem State.takeFloor_held : s.takeFloor.held = s.held := rfl
@[simp] theorem State.takeFloor_queue : s.takeFloor.queue = s.queue := rfl
@[simp] theorem State.takeFloor_matcher : s.takeFloor.matcher = s.matcher := rfl
@[simp] theorem State.takeFloor_sup : s.takeFloor.sup = s.sup := rfl
@[simp] theorem State.takeFloor_deck : s.takeFloor.deck = s.deck := rfl
@[simp] theorem State.takeFloor_freeCount : s.takeFloor.freeCount = s.freeCount := rfl
@[simp] theorem State.takeFloor_pending : s.takeFloor.pending = s.pending := rfl
@[simp] theorem State.takeFloor_standby : s.takeFloor.standby = s.standby := rfl
@[simp] theorem State.takeFloor_floor : s.takeFloor.floor = s.site.starvFloor := rfl

/-! ## notify -/

@[simp] theorem State.notify_part (b : NoticeBody) : (s.notify b).part = s.part := rfl
@[simp] theorem State.notify_tables (b : NoticeBody) : (s.notify b).tables = s.tables := rfl
@[simp] theorem State.notify_uptime (b : NoticeBody) : (s.notify b).uptime = s.uptime := rfl
@[simp] theorem State.notify_budget (b : NoticeBody) : (s.notify b).budget = s.budget := rfl
@[simp] theorem State.notify_furnaces (b : NoticeBody) : (s.notify b).furnaces = s.furnaces := rfl
@[simp] theorem State.notify_modelTimers (b : NoticeBody) : (s.notify b).modelTimers = s.modelTimers := rfl
@[simp] theorem State.notify_rotation (b : NoticeBody) : (s.notify b).rotation = s.rotation := rfl
@[simp] theorem State.notify_floor (b : NoticeBody) : (s.notify b).floor = s.floor := rfl
@[simp] theorem State.notify_periodTimer (b : NoticeBody) : (s.notify b).periodTimer = s.periodTimer := rfl
@[simp] theorem State.notify_supplies (b : NoticeBody) : (s.notify b).supplies = s.supplies := rfl
@[simp] theorem State.notify_inputs (b : NoticeBody) : (s.notify b).inputs = s.inputs := rfl
@[simp] theorem State.notify_line (b : NoticeBody) : (s.notify b).line = s.line := rfl
@[simp] theorem State.notify_scanTimer (b : NoticeBody) : (s.notify b).scanTimer = s.scanTimer := rfl
@[simp] theorem State.notify_lastScan (b : NoticeBody) : (s.notify b).lastScan = s.lastScan := rfl
@[simp] theorem State.notify_circuits (b : NoticeBody) : (s.notify b).circuits = s.circuits := rfl
@[simp] theorem State.notify_loops (b : NoticeBody) : (s.notify b).loops = s.loops := rfl
@[simp] theorem State.notify_valves (b : NoticeBody) : (s.notify b).valves = s.valves := rfl
@[simp] theorem State.notify_bottom (b : NoticeBody) : (s.notify b).bottom = s.bottom := rfl
@[simp] theorem State.notify_held (b : NoticeBody) : (s.notify b).held = s.held := rfl
@[simp] theorem State.notify_queue (b : NoticeBody) : (s.notify b).queue = s.queue := rfl
@[simp] theorem State.notify_standby (b : NoticeBody) : (s.notify b).standby = s.standby := rfl
@[simp] theorem State.notify_matcher (b : NoticeBody) : (s.notify b).matcher = s.matcher := rfl
@[simp] theorem State.notify_freeCount (b : NoticeBody) : (s.notify b).freeCount = s.freeCount := rfl
@[simp] theorem State.notify_pending (b : NoticeBody) : (s.notify b).pending = s.pending := rfl

/-! ## modTap -/

@[simp] theorem State.modTap_part (id : Nat) (g : Tap → Tap) : (s.modTap id g).part = s.part := rfl
@[simp] theorem State.modTap_tables (id : Nat) (g : Tap → Tap) : (s.modTap id g).tables = s.tables := rfl
@[simp] theorem State.modTap_uptime (id : Nat) (g : Tap → Tap) : (s.modTap id g).uptime = s.uptime := rfl
@[simp] theorem State.modTap_budget (id : Nat) (g : Tap → Tap) : (s.modTap id g).budget = s.budget := rfl
@[simp] theorem State.modTap_furnaces (id : Nat) (g : Tap → Tap) : (s.modTap id g).furnaces = s.furnaces := rfl
@[simp] theorem State.modTap_modelTimers (id : Nat) (g : Tap → Tap) : (s.modTap id g).modelTimers = s.modelTimers := rfl
@[simp] theorem State.modTap_rotation (id : Nat) (g : Tap → Tap) : (s.modTap id g).rotation = s.rotation := rfl
@[simp] theorem State.modTap_floor (id : Nat) (g : Tap → Tap) : (s.modTap id g).floor = s.floor := rfl
@[simp] theorem State.modTap_periodTimer (id : Nat) (g : Tap → Tap) : (s.modTap id g).periodTimer = s.periodTimer := rfl
@[simp] theorem State.modTap_supplies (id : Nat) (g : Tap → Tap) : (s.modTap id g).supplies = s.supplies := rfl
@[simp] theorem State.modTap_inputs (id : Nat) (g : Tap → Tap) : (s.modTap id g).inputs = s.inputs := rfl
@[simp] theorem State.modTap_line (id : Nat) (g : Tap → Tap) : (s.modTap id g).line = s.line := rfl
@[simp] theorem State.modTap_scanTimer (id : Nat) (g : Tap → Tap) : (s.modTap id g).scanTimer = s.scanTimer := rfl
@[simp] theorem State.modTap_lastScan (id : Nat) (g : Tap → Tap) : (s.modTap id g).lastScan = s.lastScan := rfl
@[simp] theorem State.modTap_circuits (id : Nat) (g : Tap → Tap) : (s.modTap id g).circuits = s.circuits := rfl
@[simp] theorem State.modTap_loops (id : Nat) (g : Tap → Tap) : (s.modTap id g).loops = s.loops := rfl
@[simp] theorem State.modTap_valves (id : Nat) (g : Tap → Tap) : (s.modTap id g).valves = s.valves := rfl
@[simp] theorem State.modTap_bottom (id : Nat) (g : Tap → Tap) : (s.modTap id g).bottom = s.bottom := rfl
@[simp] theorem State.modTap_held (id : Nat) (g : Tap → Tap) : (s.modTap id g).held = s.held := rfl
@[simp] theorem State.modTap_standby (id : Nat) (g : Tap → Tap) : (s.modTap id g).standby = s.standby := rfl
@[simp] theorem State.modTap_matcher (id : Nat) (g : Tap → Tap) : (s.modTap id g).matcher = s.matcher := rfl
@[simp] theorem State.modTap_sup (id : Nat) (g : Tap → Tap) : (s.modTap id g).sup = s.sup := rfl
@[simp] theorem State.modTap_deck (id : Nat) (g : Tap → Tap) : (s.modTap id g).deck = s.deck := rfl
@[simp] theorem State.modTap_freeCount (id : Nat) (g : Tap → Tap) : (s.modTap id g).freeCount = s.freeCount := rfl
@[simp] theorem State.modTap_pending (id : Nat) (g : Tap → Tap) : (s.modTap id g).pending = s.pending := rfl

/-! ## dropTap -/

@[simp] theorem State.dropTap_part (id : Nat) : (s.dropTap id).part = s.part := rfl
@[simp] theorem State.dropTap_tables (id : Nat) : (s.dropTap id).tables = s.tables := rfl
@[simp] theorem State.dropTap_uptime (id : Nat) : (s.dropTap id).uptime = s.uptime := rfl
@[simp] theorem State.dropTap_budget (id : Nat) : (s.dropTap id).budget = s.budget := rfl
@[simp] theorem State.dropTap_furnaces (id : Nat) : (s.dropTap id).furnaces = s.furnaces := rfl
@[simp] theorem State.dropTap_modelTimers (id : Nat) : (s.dropTap id).modelTimers = s.modelTimers := rfl
@[simp] theorem State.dropTap_rotation (id : Nat) : (s.dropTap id).rotation = s.rotation := rfl
@[simp] theorem State.dropTap_floor (id : Nat) : (s.dropTap id).floor = s.floor := rfl
@[simp] theorem State.dropTap_periodTimer (id : Nat) : (s.dropTap id).periodTimer = s.periodTimer := rfl
@[simp] theorem State.dropTap_supplies (id : Nat) : (s.dropTap id).supplies = s.supplies := rfl
@[simp] theorem State.dropTap_inputs (id : Nat) : (s.dropTap id).inputs = s.inputs := rfl
@[simp] theorem State.dropTap_line (id : Nat) : (s.dropTap id).line = s.line := rfl
@[simp] theorem State.dropTap_scanTimer (id : Nat) : (s.dropTap id).scanTimer = s.scanTimer := rfl
@[simp] theorem State.dropTap_lastScan (id : Nat) : (s.dropTap id).lastScan = s.lastScan := rfl
@[simp] theorem State.dropTap_circuits (id : Nat) : (s.dropTap id).circuits = s.circuits := rfl
@[simp] theorem State.dropTap_loops (id : Nat) : (s.dropTap id).loops = s.loops := rfl
@[simp] theorem State.dropTap_valves (id : Nat) : (s.dropTap id).valves = s.valves := rfl
@[simp] theorem State.dropTap_bottom (id : Nat) : (s.dropTap id).bottom = s.bottom := rfl
@[simp] theorem State.dropTap_held (id : Nat) : (s.dropTap id).held = s.held := rfl
@[simp] theorem State.dropTap_standby (id : Nat) : (s.dropTap id).standby = s.standby := rfl
@[simp] theorem State.dropTap_matcher (id : Nat) : (s.dropTap id).matcher = s.matcher := rfl
@[simp] theorem State.dropTap_sup (id : Nat) : (s.dropTap id).sup = s.sup := rfl
@[simp] theorem State.dropTap_deck (id : Nat) : (s.dropTap id).deck = s.deck := rfl
@[simp] theorem State.dropTap_freeCount (id : Nat) : (s.dropTap id).freeCount = s.freeCount := rfl
@[simp] theorem State.dropTap_pending (id : Nat) : (s.dropTap id).pending = s.pending := rfl

/-! ## setPort -/

@[simp] theorem State.setPort_part (p : Port) (u : PortUnit) : (s.setPort p u).part = s.part := by cases p <;> rfl
@[simp] theorem State.setPort_tables (p : Port) (u : PortUnit) : (s.setPort p u).tables = s.tables := by cases p <;> rfl
@[simp] theorem State.setPort_uptime (p : Port) (u : PortUnit) : (s.setPort p u).uptime = s.uptime := by cases p <;> rfl
@[simp] theorem State.setPort_budget (p : Port) (u : PortUnit) : (s.setPort p u).budget = s.budget := by cases p <;> rfl
@[simp] theorem State.setPort_furnaces (p : Port) (u : PortUnit) : (s.setPort p u).furnaces = s.furnaces := by cases p <;> rfl
@[simp] theorem State.setPort_modelTimers (p : Port) (u : PortUnit) : (s.setPort p u).modelTimers = s.modelTimers := by cases p <;> rfl
@[simp] theorem State.setPort_rotation (p : Port) (u : PortUnit) : (s.setPort p u).rotation = s.rotation := by cases p <;> rfl
@[simp] theorem State.setPort_floor (p : Port) (u : PortUnit) : (s.setPort p u).floor = s.floor := by cases p <;> rfl
@[simp] theorem State.setPort_periodTimer (p : Port) (u : PortUnit) : (s.setPort p u).periodTimer = s.periodTimer := by cases p <;> rfl
@[simp] theorem State.setPort_supplies (p : Port) (u : PortUnit) : (s.setPort p u).supplies = s.supplies := by cases p <;> rfl
@[simp] theorem State.setPort_inputs (p : Port) (u : PortUnit) : (s.setPort p u).inputs = s.inputs := by cases p <;> rfl
@[simp] theorem State.setPort_line (p : Port) (u : PortUnit) : (s.setPort p u).line = s.line := by cases p <;> rfl
@[simp] theorem State.setPort_scanTimer (p : Port) (u : PortUnit) : (s.setPort p u).scanTimer = s.scanTimer := by cases p <;> rfl
@[simp] theorem State.setPort_lastScan (p : Port) (u : PortUnit) : (s.setPort p u).lastScan = s.lastScan := by cases p <;> rfl
@[simp] theorem State.setPort_circuits (p : Port) (u : PortUnit) : (s.setPort p u).circuits = s.circuits := by cases p <;> rfl
@[simp] theorem State.setPort_loops (p : Port) (u : PortUnit) : (s.setPort p u).loops = s.loops := by cases p <;> rfl
@[simp] theorem State.setPort_valves (p : Port) (u : PortUnit) : (s.setPort p u).valves = s.valves := by cases p <;> rfl
@[simp] theorem State.setPort_bottom (p : Port) (u : PortUnit) : (s.setPort p u).bottom = s.bottom := by cases p <;> rfl
@[simp] theorem State.setPort_held (p : Port) (u : PortUnit) : (s.setPort p u).held = s.held := by cases p <;> rfl
@[simp] theorem State.setPort_queue (p : Port) (u : PortUnit) : (s.setPort p u).queue = s.queue := by cases p <;> rfl
@[simp] theorem State.setPort_standby (p : Port) (u : PortUnit) : (s.setPort p u).standby = s.standby := by cases p <;> rfl
@[simp] theorem State.setPort_matcher (p : Port) (u : PortUnit) : (s.setPort p u).matcher = s.matcher := by cases p <;> rfl
@[simp] theorem State.setPort_freeCount (p : Port) (u : PortUnit) : (s.setPort p u).freeCount = s.freeCount := by cases p <;> rfl
@[simp] theorem State.setPort_pending (p : Port) (u : PortUnit) : (s.setPort p u).pending = s.pending := by cases p <;> rfl

/-! ## withPending -/

@[simp] theorem State.withPending_part (l : List Instr) : (s.withPending l).part = s.part := rfl
@[simp] theorem State.withPending_tables (l : List Instr) : (s.withPending l).tables = s.tables := rfl
@[simp] theorem State.withPending_uptime (l : List Instr) : (s.withPending l).uptime = s.uptime := rfl
@[simp] theorem State.withPending_budget (l : List Instr) : (s.withPending l).budget = s.budget := rfl
@[simp] theorem State.withPending_furnaces (l : List Instr) : (s.withPending l).furnaces = s.furnaces := rfl
@[simp] theorem State.withPending_modelTimers (l : List Instr) : (s.withPending l).modelTimers = s.modelTimers := rfl
@[simp] theorem State.withPending_rotation (l : List Instr) : (s.withPending l).rotation = s.rotation := rfl
@[simp] theorem State.withPending_floor (l : List Instr) : (s.withPending l).floor = s.floor := rfl
@[simp] theorem State.withPending_periodTimer (l : List Instr) : (s.withPending l).periodTimer = s.periodTimer := rfl
@[simp] theorem State.withPending_supplies (l : List Instr) : (s.withPending l).supplies = s.supplies := rfl
@[simp] theorem State.withPending_inputs (l : List Instr) : (s.withPending l).inputs = s.inputs := rfl
@[simp] theorem State.withPending_line (l : List Instr) : (s.withPending l).line = s.line := rfl
@[simp] theorem State.withPending_scanTimer (l : List Instr) : (s.withPending l).scanTimer = s.scanTimer := rfl
@[simp] theorem State.withPending_lastScan (l : List Instr) : (s.withPending l).lastScan = s.lastScan := rfl
@[simp] theorem State.withPending_circuits (l : List Instr) : (s.withPending l).circuits = s.circuits := rfl
@[simp] theorem State.withPending_loops (l : List Instr) : (s.withPending l).loops = s.loops := rfl
@[simp] theorem State.withPending_valves (l : List Instr) : (s.withPending l).valves = s.valves := rfl
@[simp] theorem State.withPending_bottom (l : List Instr) : (s.withPending l).bottom = s.bottom := rfl
@[simp] theorem State.withPending_held (l : List Instr) : (s.withPending l).held = s.held := rfl
@[simp] theorem State.withPending_queue (l : List Instr) : (s.withPending l).queue = s.queue := rfl
@[simp] theorem State.withPending_standby (l : List Instr) : (s.withPending l).standby = s.standby := rfl
@[simp] theorem State.withPending_matcher (l : List Instr) : (s.withPending l).matcher = s.matcher := rfl
@[simp] theorem State.withPending_sup (l : List Instr) : (s.withPending l).sup = s.sup := rfl
@[simp] theorem State.withPending_deck (l : List Instr) : (s.withPending l).deck = s.deck := rfl
@[simp] theorem State.withPending_freeCount (l : List Instr) : (s.withPending l).freeCount = s.freeCount := rfl

/-! ## Reading back what was written -/

theorem State.furnace_setFurnace (f g : FurnaceId) (r : Furnace) :
    (s.setFurnace f r).furnace g = if f = g then r else s.furnace g := by
  simp only [State.furnace, State.setFurnace]
  by_cases h : f = g
  · subst h; simp
  · have : f.val ≠ g.val := fun e => h (Fin.ext e)
    simp [h, this]

@[simp] theorem State.furnace_setFurnace_self (f : FurnaceId) (r : Furnace) : (s.setFurnace f r).furnace f = r := by
  simp [State.furnace_setFurnace]

theorem State.supply_setSupply (u v : SupplyId) (r : Supply) :
    (s.setSupply u r).supply v = if u = v then r else s.supply v := by
  simp only [State.supply, State.setSupply]
  by_cases h : u = v
  · subst h; simp
  · have : u.val ≠ v.val := fun e => h (Fin.ext e)
    simp [h, this]

theorem State.circuit_setCircuit (c d : CircuitId) (r : Circuit) :
    (s.setCircuit c r).circuit d = if c = d then r else s.circuit d := by
  simp only [State.circuit, State.setCircuit]
  by_cases h : c = d
  · subst h; simp
  · have : c.val ≠ d.val := fun e => h (Fin.ext e)
    simp [h, this]

theorem State.loop_setLoop (l m : LoopId) (r : Loop) :
    (s.setLoop l r).loop m = if l = m then r else s.loop m := by
  simp only [State.loop, State.setLoop]
  by_cases h : l = m
  · subst h; simp
  · have : l.val ≠ m.val := fun e => h (Fin.ext e)
    simp [h, this]

@[simp] theorem State.furnace_notify (b : NoticeBody) (f : FurnaceId) : (s.notify b).furnace f = s.furnace f := rfl
@[simp] theorem State.furnace_setSupply (u : SupplyId) (r : Supply) (f : FurnaceId) :
    (s.setSupply u r).furnace f = s.furnace f := rfl
@[simp] theorem State.supply_setFurnace (f : FurnaceId) (r : Furnace) (u : SupplyId) :
    (s.setFurnace f r).supply u = s.supply u := rfl
@[simp] theorem State.supply_notify (b : NoticeBody) (u : SupplyId) : (s.notify b).supply u = s.supply u := rfl

@[simp] theorem State.sup_notify (b : NoticeBody) : (s.notify b).sup = s.sup.offer ⟨s.uptime, b⟩ := rfl
@[simp] theorem State.deck_notify (b : NoticeBody) : (s.notify b).deck = s.deck.offer ⟨s.uptime, b⟩ := rfl

theorem State.port_setPort (p q : Port) (u : PortUnit) :
    (s.setPort p u).port q = if p = q then u else s.port q := by
  cases p <;> cases q <;> rfl

theorem State.port_notify (b : NoticeBody) (p : Port) : (s.notify b).port p = (s.port p).offer ⟨s.uptime, b⟩ := by
  cases p <;> rfl

/-! ## Reference channels (R96) -/

@[simp] theorem ChannelDrive.level_zero (n : Nat) : ChannelDrive.zero.level n = 0 := rfl
@[simp] theorem ChannelDrive.level_scaled_zero (n r : Nat) : (ChannelDrive.scaled 0 r).level n = 0 := by
  simp [ChannelDrive.level]
/-- A reference at the coil rating is full scale. -/
theorem ChannelDrive.level_full {r : Nat} (n : Nat) (h : 0 < r) : (ChannelDrive.scaled r r).level n = n :=
  Nat.mul_div_cancel_left n h

end Sys2Proof.Machine
end

