-- ==== Sys2Proof/Laws/Frame.lean ====
section
/-! SUPPORT. What each shared operation can do, said once: the scheduler's operations leave all but furnaces, supplies,
the tap queue, the matcher pointer and the ports (`TapFrame`), and no operation inside the part raises a grant, grows
the tap queue, or touches a reply (`Quiet`). -/

namespace Sys2Proof.Machine

/-! ## Ports -/

theorem PortKeeps.refl (p : PortUnit) : PortKeeps p p :=
  ⟨rfl, rfl, rfl, List.prefix_refl _, id, id⟩

theorem PortKeeps.trans {p q r : PortUnit} (a : PortKeeps p q) (b : PortKeeps q r) : PortKeeps p r :=
  ⟨b.framer.trans a.framer, b.replies.trans a.replies, b.sending.trans a.sending, a.notices.trans b.notices,
    fun h => b.bound (a.bound h), fun h => b.lost (a.lost h)⟩

theorem PortKeeps.offer (p : PortUnit) (n : Notice) : PortKeeps p (p.offer n) := by
  unfold PortUnit.offer
  split
  · refine ⟨rfl, rfl, rfl, List.prefix_append _ _, fun _ => ?_, id⟩
    simp only [List.length_append, List.length_cons, List.length_nil]
    omega
  · exact ⟨rfl, rfl, rfl, List.prefix_refl _, id, fun _ => rfl⟩

/-- A port that gains notices only stays sound. -/
theorem PortKeeps.sound {p q : PortUnit} (k : PortKeeps p q) (h : PortSound p) : PortSound q := by
  refine ⟨k.replies ▸ h.replies, k.bound h.notices, ?_, ?_, fun e => k.framer.trans (h.driver ?_)⟩
  · intro b hb
    rw [k.replies]
    exact h.sendingReply b (k.sending ▸ hb)
  · intro b hb e
    have := h.sendingNotice b (k.sending ▸ hb)
    have hp := k.notices
    rw [e] at hp
    exact this (List.prefix_nil.mp hp)
  · rwa [PortUnit.driving, ← k.sending]

/-! ## Frames -/

theorem SchedulerOnly.refl (s : State) : SchedulerOnly s s := by constructor <;> rfl

theorem SchedulerOnly.trans {s t u : State} (a : SchedulerOnly s t) (b : SchedulerOnly t u) : SchedulerOnly s u :=
  ⟨b.part.trans a.part, b.tables.trans a.tables, b.uptime.trans a.uptime, b.budget.trans a.budget,
    b.modelTimers.trans a.modelTimers, b.rotation.trans a.rotation, b.floor.trans a.floor, b.periodTimer.trans a.periodTimer,
    b.inputs.trans a.inputs, b.line.trans a.line, b.scanTimer.trans a.scanTimer, b.lastScan.trans a.lastScan,
    b.circuits.trans a.circuits, b.loops.trans a.loops, b.valves.trans a.valves, b.bottom.trans a.bottom,
    b.held.trans a.held, b.standby.trans a.standby, b.freeCount.trans a.freeCount, b.pending.trans a.pending⟩

/-- What the operations inside the part keep of a furnace record. -/
structure FurnaceKeeps (r q : Furnace) : Prop where
  grant : q.power.grant ≤ r.power.grant
  service : q.service = r.service
  setClass : q.power.setClass = r.power.setClass
  rush : q.power.rush = r.power.rush

theorem FurnaceKeeps.refl (r : Furnace) : FurnaceKeeps r r := ⟨Nat.le_refl _, rfl, rfl, rfl⟩

theorem FurnaceKeeps.trans {p q r : Furnace} (a : FurnaceKeeps p q) (b : FurnaceKeeps q r) : FurnaceKeeps p r :=
  ⟨Nat.le_trans b.grant a.grant, b.service.trans a.service, b.setClass.trans a.setClass, b.rush.trans a.rush⟩

/-- The frame of an operation of the tap scheduler, the heat unit or the power apportioner. -/
structure TapFrame (s t : State) : Prop where
  only : SchedulerOnly s t
  sup : PortKeeps s.sup t.sup
  deck : PortKeeps s.deck t.deck
  furnace : ∀ f, FurnaceKeeps (s.furnace f) (t.furnace f)
  queue : t.queue.length ≤ s.queue.length

theorem TapFrame.refl (s : State) : TapFrame s s :=
  ⟨.refl s, .refl _, .refl _, fun _ => .refl _, Nat.le_refl _⟩

theorem TapFrame.trans {s t u : State} (a : TapFrame s t) (b : TapFrame t u) : TapFrame s u :=
  ⟨a.only.trans b.only, a.sup.trans b.sup, a.deck.trans b.deck, fun f => (a.furnace f).trans (b.furnace f),
    Nat.le_trans b.queue a.queue⟩

/-- A fold of operations that have a frame has it. -/
theorem TapFrame.foldl {α : Type} {g : State → α → State} (h : ∀ s a, TapFrame s (g s a)) (l : List α) :
    ∀ s, TapFrame s (l.foldl g s) := by
  induction l with
  | nil => exact TapFrame.refl
  | cons a l ih => intro s; exact (h s a).trans (ih (g s a))

theorem TapFrame.ite {c : Prop} [Decidable c] {s t u : State} (a : TapFrame s t) (b : TapFrame s u) :
    TapFrame s (if c then t else u) := by split <;> assumption

theorem TapFrame.setFurnace (s : State) (f : FurnaceId) {r : Furnace} (h : FurnaceKeeps (s.furnace f) r) :
    TapFrame s (s.setFurnace f r) := by
  refine ⟨by constructor <;> rfl, .refl _, .refl _, fun g => ?_, Nat.le_refl _⟩
  rw [State.furnace_setFurnace]
  split
  · next e => subst e; exact h
  · exact .refl _

theorem TapFrame.modFurnace (s : State) (f : FurnaceId) {g : Furnace → Furnace}
    (h : FurnaceKeeps (s.furnace f) (g (s.furnace f))) : TapFrame s (s.modFurnace f g) := .setFurnace s f h

theorem TapFrame.modBath (s : State) (f : FurnaceId) (g : Bath → Bath) : TapFrame s (s.modBath f g) :=
  .setFurnace s f ⟨Nat.le_refl _, rfl, rfl, rfl⟩

theorem TapFrame.modPower (s : State) (f : FurnaceId) {g : Power → Power}
    (hg : ∀ p, (g p).grant ≤ p.grant ∧ (g p).setClass = p.setClass ∧ (g p).rush = p.rush) :
    TapFrame s (s.modPower f g) :=
  .setFurnace s f ⟨(hg _).1, rfl, (hg _).2.1, (hg _).2.2⟩

theorem TapFrame.setSupply (s : State) (u : SupplyId) (r : Supply) : TapFrame s (s.setSupply u r) :=
  ⟨by constructor <;> rfl, .refl _, .refl _, fun _ => .refl _, Nat.le_refl _⟩

theorem TapFrame.notify (s : State) (b : NoticeBody) : TapFrame s (s.notify b) :=
  ⟨by constructor <;> rfl, .offer _ _, .offer _ _, fun _ => .refl _, Nat.le_refl _⟩

theorem TapFrame.modTap (s : State) (id : Nat) (g : Tap → Tap) : TapFrame s (s.modTap id g) :=
  ⟨by constructor <;> rfl, .refl _, .refl _, fun _ => .refl _, by simp [State.modTap]⟩

theorem TapFrame.dropTap (s : State) (id : Nat) : TapFrame s (s.dropTap id) :=
  ⟨by constructor <;> rfl, .refl _, .refl _, fun _ => .refl _, List.length_filter_le _ _⟩

theorem TapFrame.matcher (s : State) (f : FurnaceId) : TapFrame s { s with matcher := f } :=
  ⟨by constructor <;> rfl, .refl _, .refl _, fun _ => .refl _, Nat.le_refl _⟩

theorem TapFrame.heatNotice (s : State) (f : FurnaceId) (e : HeatEvent) : TapFrame s (s.heatNotice f e) := .notify s _
theorem TapFrame.tapNotice (s : State) (r : Tap) (e : TapEvent) : TapFrame s (s.tapNotice r e) := .notify s _
theorem TapFrame.powerNotice (s : State) (f : FurnaceId) (e : PowerEvent) : TapFrame s (s.powerNotice f e) := .notify s _
theorem TapFrame.supplyNotice (s : State) (u : SupplyId) (e : SupplyEvent) : TapFrame s (s.supplyNotice u e) :=
  .notify s _
theorem TapFrame.writeFault (s : State) (f : FurnaceId) (e : FaultSense) : TapFrame s (s.writeFault f e) :=
  .setFurnace s f ⟨Nat.le_refl _, rfl, rfl, rfl⟩

/-! ## Power -/

theorem TapFrame.handTotal (s : State) (u : SupplyId) : TapFrame s (s.handTotal u) := by
  unfold State.handTotal
  exact .ite (.setSupply ..) (.refl s)

theorem TapFrame.handTotals (s : State) : TapFrame s s.handTotals := .foldl TapFrame.handTotal _ s

theorem TapFrame.refreshDemands (s : State) : TapFrame s s.refreshDemands := by
  unfold State.refreshDemands
  refine TapFrame.foldl (fun t f => ?_) _ s
  exact .modPower t f fun p => ⟨Nat.le_refl _, rfl, rfl⟩

theorem TapFrame.refreshCaps (s : State) : TapFrame s s.refreshCaps := by
  unfold State.refreshCaps
  refine TapFrame.foldl (fun t f => ?_) _ s
  exact .modPower t f fun p => ⟨Nat.le_refl _, rfl, rfl⟩

theorem TapFrame.refreshPower (s : State) : TapFrame s s.refreshPower :=
  (TapFrame.refreshDemands s).trans (.refreshCaps _)

theorem TapFrame.zeroFurnace (s : State) (f : FurnaceId) : TapFrame s (s.zeroFurnace f) := by
  unfold State.zeroFurnace
  refine TapFrame.trans (t := s.modPower f Power.zeroed) ?_ ?_
  · exact .modPower s f fun p => ⟨Nat.zero_le _, rfl, rfl⟩
  · refine TapFrame.trans ?_ (.refreshPower _)
    split
    · exact .handTotal ..
    · exact .refl _

theorem TapFrame.reductionPass (s : State) : TapFrame s s.reductionPass := by
  unfold State.reductionPass
  generalize s.figures = l
  refine TapFrame.trans (TapFrame.foldl (fun t f => ?_) _ s) (.handTotals _)
  exact .modPower t f fun p => ⟨Nat.min_le_left _ _, rfl, rfl⟩

theorem TapFrame.settle (s : State) (fell : Bool) : TapFrame s (s.settle fell) := by
  unfold State.settle
  exact .ite (.reductionPass s) (.refl s)

theorem TapFrame.settleFrom (s before : State) : TapFrame s (s.settleFrom before) := .settle s _

/-! ## Heat unit -/

theorem TapFrame.enterPhase (s : State) (f : FurnaceId) (p : Phase) : TapFrame s (s.enterPhase f p) := by
  unfold State.enterPhase
  refine TapFrame.trans (t := s.modFurnace f fun r => { r.clearForPhase p with phase := p }) ?_ ?_
  · refine .modFurnace s f ?_
    unfold Furnace.clearForPhase
    split <;> exact ⟨Nat.le_refl _, rfl, rfl, rfl⟩
  · exact .ite (.zeroFurnace ..) (.refreshPower _)

theorem TapFrame.phaseSteps (s : State) (f : FurnaceId) (p : Phase) (c : PhaseCause) :
    TapFrame s (s.phaseSteps f p c) := (TapFrame.enterPhase s f p).trans (.heatNotice ..)

theorem TapFrame.closeSteps (s : State) (f : FurnaceId) (b : Bool) : TapFrame s (s.closeSteps f b) := by
  unfold State.closeSteps
  exact ((TapFrame.modFurnace s f (g := Furnace.heatClosed) ⟨Nat.le_refl _, rfl, rfl, rfl⟩).trans
    (.enterPhase ..)).trans (.heatNotice ..)

theorem TapFrame.followSetpoint (s : State) (f : FurnaceId) : TapFrame s (s.followSetpoint f) := by
  unfold State.followSetpoint
  exact (TapFrame.modFurnace s f ⟨Nat.le_refl _, rfl, rfl, rfl⟩).trans (.refreshPower _)

theorem TapFrame.judgeFreeze (s : State) (f : FurnaceId) : TapFrame s (s.judgeFreeze f) := by
  unfold State.judgeFreeze
  dsimp only
  split
  · exact .refl s
  · split
    · exact .refl s
    · refine .ite ?_ (.ite ?_ (.refl s)) <;>
        exact (TapFrame.modFurnace s f ⟨Nat.le_refl _, rfl, rfl, rfl⟩).trans (.heatNotice ..)

/-! ## Tap scheduler -/

theorem TapFrame.staleDipRequest (s : State) (f : FurnaceId) : TapFrame s (s.staleDipRequest f) := by
  unfold State.staleDipRequest
  dsimp only
  split
  · exact .ite ((TapFrame.heatNotice ..).trans (.modTap ..)) (.refl s)
  · exact .refl s

theorem TapFrame.evaluate (s : State) (f : FurnaceId) : TapFrame s (s.evaluate f) := by
  unfold State.evaluate
  dsimp only
  refine .ite ?_ (.refl s)
  refine TapFrame.trans ?_ (.staleDipRequest _ _)
  have h := TapFrame.modFurnace s f
    (g := fun r => { r with blocking := s.blockingNow f, tapReady := (s.blockingNow f).isEmpty })
    ⟨Nat.le_refl _, rfl, rfl, rfl⟩
  exact .ite h (h.trans (.notify ..))

theorem TapFrame.evaluateAll (s : State) (fs : List FurnaceId) : TapFrame s (s.evaluateAll fs) :=
  .foldl TapFrame.evaluate fs s

theorem TapFrame.recomputeClass (s : State) (f : FurnaceId) : TapFrame s (s.recomputeClass f) :=
  .modPower s f fun _ => ⟨Nat.le_refl _, rfl, rfl⟩

theorem TapFrame.assign (s : State) (id : Nat) (f : FurnaceId) (d : Bool) (e : State → TapEvent) :
    TapFrame s (s.assign id f d e) := by
  unfold State.assign
  dsimp only
  refine TapFrame.trans ?_ (.evaluate _ _)
  have h1 := TapFrame.modTap s id fun r =>
    { r with state := .assigned, assigned := some f, chosen := (s.furnace f).grade, downgraded := d, staleSent := false }
  have h2 := h1.trans (TapFrame.modFurnace _ f (g := fun r => { r with assigned := some id })
    ⟨Nat.le_refl _, rfl, rfl, rfl⟩)
  have h3 := (h2.trans (.followSetpoint _ f)).trans (.recomputeClass _ f)
  refine .ite (TapFrame.trans ?_ (.phaseSteps ..)) ?_ <;>
    (split
     · exact h3.trans (.tapNotice ..)
     · exact h3)

theorem TapFrame.part1and2 (s : State) (id : Nat) (f : FurnaceId) : TapFrame s (s.part1and2 id f) := by
  unfold State.part1and2
  exact (((TapFrame.modFurnace s f ⟨Nat.le_refl _, rfl, rfl, rfl⟩).trans (.followSetpoint ..)).trans
    (.modTap ..)).trans (.recomputeClass ..)

theorem TapFrame.release (s : State) (r : Tap) (f : FurnaceId) : TapFrame s (s.release r f) := by
  unfold State.release
  dsimp only
  refine TapFrame.trans (.part1and2 s r.id f) ?_
  split
  · exact (TapFrame.modTap ..).trans (.assign ..)
  · split
    · exact (TapFrame.modTap ..).trans (.tapNotice ..)
    · exact .modTap ..

theorem TapFrame.visitRecord (s : State) (id : Nat) : TapFrame s (s.visitRecord id) := by
  unfold State.visitRecord
  split
  · refine .ite ?_ (.refl s)
    split
    · exact (TapFrame.assign ..).trans (.matcher ..)
    · exact .refl s
  · exact .refl s

theorem TapFrame.matchingPass (s : State) : TapFrame s s.matchingPass := .foldl TapFrame.visitRecord _ s

theorem TapFrame.endTap (s : State) (r : Tap) (f : FurnaceId) (code : Option EndCode) :
    TapFrame s (s.endTap r f code) := by
  unfold State.endTap
  dsimp only
  refine TapFrame.trans (TapFrame.trans ?_ (.evaluate _ _)) (.matchingPass _)
  have h1 : TapFrame s (match code.bind EndCode.fault with
      | some c => s.writeFault f (.tap c r.id r.done (r.done + 1) s.uptime)
      | none => s) := by
    split
    · exact .writeFault ..
    · exact .refl s
  have h2 := fun n e => (h1.trans (.dropTap _ r.id)).trans (.tapNotice _ n e)
  refine .ite ?_ ?_
  · exact (((h2 _ _).trans (TapFrame.modFurnace _ f ⟨Nat.le_refl _, rfl, rfl, rfl⟩)).trans
      (.followSetpoint ..)).trans (.phaseSteps ..)
  · exact (h2 _ _).trans (.closeSteps ..)

theorem TapFrame.judgeStarted (s : State) (f : FurnaceId) : TapFrame s (s.judgeStarted f) := by
  unfold State.judgeStarted
  split
  · exact .ite (.endTap ..) (.refl s)
  · exact .refl s

theorem TapFrame.judgeAssigned (x : State × List FurnaceId) (f : FurnaceId) :
    TapFrame x.1 (State.judgeAssigned x f).1 := by
  unfold State.judgeAssigned
  split
  · dsimp only
    split
    · exact .release ..
    · exact .refl _
  · exact .refl _

theorem TapFrame.judgeAssignedAll (fs : List FurnaceId) :
    ∀ x : State × List FurnaceId, TapFrame x.1 (fs.foldl State.judgeAssigned x).1 := by
  induction fs with
  | nil => exact fun x => .refl x.1
  | cons f fs ih => exact fun x => (TapFrame.judgeAssigned x f).trans (ih _)

theorem TapFrame.tapChange (s : State) (fs : List FurnaceId) : TapFrame s (s.tapChange fs) := by
  unfold State.tapChange
  dsimp only
  exact (((TapFrame.foldl TapFrame.judgeStarted fs s).trans (TapFrame.judgeAssignedAll fs (_, []))).trans
    (.evaluateAll ..)).trans (.matchingPass _)

theorem TapFrame.changePhase (s : State) (f : FurnaceId) (p : Phase) (c : PhaseCause) :
    TapFrame s (s.changePhase f p c) := (TapFrame.phaseSteps ..).trans (.tapChange ..)

theorem TapFrame.closeHeat (s : State) (f : FurnaceId) (b : Bool) : TapFrame s (s.closeHeat f b) :=
  (TapFrame.closeSteps ..).trans (.tapChange ..)

theorem TapFrame.judgeSoftStop (s : State) (f : FurnaceId) (c : SoftStopCause) : TapFrame s (s.judgeSoftStop f c) := by
  unfold State.judgeSoftStop
  split
  · dsimp only
    exact .ite ((TapFrame.modTap ..).trans (.tapNotice ..)) (.refl s)
  · exact .refl s

/-! ## Supply output unit -/

theorem TapFrame.failSupply (s : State) (u : SupplyId) (c : FailCause) : TapFrame s (s.failSupply u c) := by
  unfold State.failSupply
  dsimp only
  refine TapFrame.trans (TapFrame.trans ?_ (.supplyNotice ..)) (.tapChange ..)
  refine TapFrame.trans ?_ (.foldl (fun t f => .writeFault t f _) _ _)
  exact (((TapFrame.setSupply ..).trans (.refreshPower _)).trans (.foldl TapFrame.zeroFurnace _ _)).trans (.setSupply ..)

theorem TapFrame.failAttempt (s : State) (u : SupplyId) (c : FailCause) : TapFrame s (s.failAttempt u c) := by
  unfold State.failAttempt
  dsimp only
  exact .ite ((TapFrame.setSupply ..).trans (.failSupply ..))
    (.ite ((TapFrame.setSupply ..).trans (.supplyNotice ..)) ((TapFrame.setSupply ..).trans (.supplyNotice ..)))

theorem TapFrame.enterRunning (s : State) (u : SupplyId) : TapFrame s (s.enterRunning u) := .setSupply ..

theorem TapFrame.enterStarting (s : State) (u : SupplyId) : TapFrame s (s.enterStarting u) := by
  unfold State.enterStarting
  dsimp only
  exact .ite ((TapFrame.setSupply ..).trans (.failAttempt ..))
    (.ite ((TapFrame.setSupply ..).trans (.enterRunning ..)) (.setSupply ..))

theorem TapFrame.handTotalUp (s : State) (u : SupplyId) : TapFrame s (s.handTotalUp u) := by
  unfold State.handTotalUp
  dsimp only
  exact .ite (.ite ((TapFrame.setSupply ..).trans (.enterStarting ..)) (.setSupply ..)) (.refl s)

end Sys2Proof.Machine
end

