-- ==== Sys2Proof/Laws/Quiet.lean ====
section
/-! SUPPORT. The wider frame `Quiet` of the operations that also reach the budget, the loops, the circuits or the trip-held
set: budget, loop and trip changes, the bath model, dips and supplies; and what it keeps. -/

namespace Sys2Proof.Machine

theorem Quiet.refl (s : State) : Quiet s s :=
  ⟨rfl, rfl, rfl, rfl, rfl, rfl, rfl, rfl, rfl, .refl _, .refl _, fun _ => Nat.le_refl _, fun _ => rfl, fun _ => rfl,
    fun _ => rfl, Nat.le_refl _, id, id⟩

theorem Quiet.trans {s t u : State} (a : Quiet s t) (b : Quiet t u) : Quiet s u :=
  ⟨b.part.trans a.part, b.tables.trans a.tables, b.uptime.trans a.uptime, b.modelTimers.trans a.modelTimers,
    b.periodTimer.trans a.periodTimer, b.inputs.trans a.inputs, b.standby.trans a.standby,
    b.freeCount.trans a.freeCount, b.pending.trans a.pending, a.sup.trans b.sup, a.deck.trans b.deck,
    fun f => Nat.le_trans (b.grant f) (a.grant f), fun f => (b.service f).trans (a.service f),
    fun f => (b.setClass f).trans (a.setClass f), fun f => (b.rush f).trans (a.rush f), Nat.le_trans b.queue a.queue,
    fun h => b.loops (a.loops h), fun h => b.marks (a.marks h)⟩

theorem Quiet.ite {c : Prop} [Decidable c] {s t u : State} (a : Quiet s t) (b : Quiet s u) :
    Quiet s (if c then t else u) := by split <;> assumption

theorem Quiet.foldl {α : Type} {g : State → α → State} (h : ∀ s a, Quiet s (g s a)) (l : List α) :
    ∀ s, Quiet s (l.foldl g s) := by
  induction l with
  | nil => exact Quiet.refl
  | cons a l ih => intro s; exact (h s a).trans (ih (g s a))

theorem LoopsSound.of_eq {s t : State} (ht : t.tables = s.tables) (hl : t.loops = s.loops) (hv : t.valves = s.valves)
    (h : LoopsSound s) : LoopsSound t := by
  intro l
  have := h l
  simpa only [LoopsSound, State.valveDue, State.loopCfg, State.loop, ht, hl, hv] using this

theorem MarksSound.of_eq {s t : State} (hc : t.circuits = s.circuits) (h : MarksSound s) : MarksSound t := by
  intro c
  have := h c
  simpa only [State.circuit, hc] using this

theorem TapFrame.quiet {s t : State} (h : TapFrame s t) : Quiet s t :=
  ⟨h.only.part, h.only.tables, h.only.uptime, h.only.modelTimers, h.only.periodTimer, h.only.inputs, h.only.standby,
    h.only.freeCount, h.only.pending, h.sup, h.deck, fun f => (h.furnace f).grant, fun f => (h.furnace f).service,
    fun f => (h.furnace f).setClass, fun f => (h.furnace f).rush, h.queue,
    .of_eq h.only.tables h.only.loops h.only.valves, .of_eq h.only.circuits⟩

/-- What a quiet operation keeps. -/
theorem Quiet.sound {s t : State} (q : Quiet s t) (h : Sound s) : Sound t :=
  ⟨q.sup.sound h.sup, q.deck.sound h.deck, Nat.le_trans q.queue h.queue, q.loops h.loops, q.marks h.marks, fun f e => by
    rw [q.rush f]
    exact h.rush f (q.setClass f ▸ e)⟩

/-! ## Budget -/

theorem Quiet.budget (s : State) (b : Budget) : Quiet s { s with budget := b } :=
  ⟨rfl, rfl, rfl, rfl, rfl, rfl, rfl, rfl, rfl, .refl _, .refl _, fun _ => Nat.le_refl _, fun _ => rfl, fun _ => rfl,
    fun _ => rfl, Nat.le_refl _, id, id⟩

theorem Quiet.setHeld (s : State) (l : List FurnaceId) : Quiet s { s with held := l } :=
  ⟨rfl, rfl, rfl, rfl, rfl, rfl, rfl, rfl, rfl, .refl _, .refl _, fun _ => Nat.le_refl _, fun _ => rfl, fun _ => rfl,
    fun _ => rfl, Nat.le_refl _, id, id⟩

theorem Quiet.scanDone (s : State) (x : Line) (d : Option ScanDone) : Quiet s { s with line := x, lastScan := d } :=
  ⟨rfl, rfl, rfl, rfl, rfl, rfl, rfl, rfl, rfl, .refl _, .refl _, fun _ => Nat.le_refl _, fun _ => rfl, fun _ => rfl,
    fun _ => rfl, Nat.le_refl _, id, id⟩

theorem Quiet.recomputeBudget (s : State) : Quiet s s.recomputeBudget := .budget s _

theorem Quiet.setCeiling (s : State) (c : Nat) (o : Origin) (k : CeilingCause) : Quiet s (s.setCeiling c o k) :=
  ((Quiet.budget s { s.budget with ceiling := c, origin := o }).trans (.recomputeBudget _)).trans
    (TapFrame.notify ..).quiet

theorem Quiet.matchSlot (s : State) (c : Clock) : Quiet s (s.matchSlot c) := by
  unfold State.matchSlot
  split
  · exact .setCeiling ..
  · exact .refl s

/-! ## Loops and circuits -/

/-- A change of a loop's record that keeps what R119 asks of it. -/
theorem Quiet.setLoop (s : State) (l : LoopId) {r : Loop} (hs : r.state = (s.loop l).state)
    (ht : ((s.loop l).returnTimer.isSome = (s.loop l).healthySince.isSome →
      r.returnTimer.isSome = r.healthySince.isSome))
    (hh : ((s.loop l).healthySince.isSome = true → (s.loop l).state = .emergency ∧ (s.loop l).hold = false) →
      r.healthySince.isSome = true → r.state = .emergency ∧ r.hold = false) : Quiet s (s.setLoop l r) := by
  refine ⟨rfl, rfl, rfl, rfl, rfl, rfl, rfl, rfl, rfl, .refl _, .refl _, fun _ => Nat.le_refl _, fun _ => rfl,
    fun _ => rfl, fun _ => rfl, Nat.le_refl _, fun h m => ?_, id⟩
  have hm := h m
  have hd : (s.setLoop l r).valveDue m = s.valveDue m := by
    simp only [State.valveDue, State.loop_setLoop]
    by_cases e : l = m
    · subst e; simp [hs, State.loopCfg]
    · simp [e, State.loopCfg]
  refine ⟨hd ▸ hm.1, ?_, ?_⟩
  · rw [State.loop_setLoop]
    split
    · next e => subst e; exact ht hm.2.1
    · exact hm.2.1
  · rw [State.loop_setLoop]
    split
    · next e => subst e; exact hh hm.2.2
    · exact hm.2.2

/-- A change of a loop's request state. -/
theorem Quiet.setRequest (s : State) (l : LoopId) (q : Request) :
    Quiet s (s.setLoop l { s.loop l with request := q }) := .setLoop s l rfl id id

/-- A change of a circuit's record that keeps what R135 asks of its transient mark. -/
theorem Quiet.setCircuit (s : State) (c : CircuitId) {r : Circuit}
    (h : ((s.circuit c).transient = true → (s.circuit c).request = .none) → r.transient = true → r.request = .none) :
    Quiet s (s.setCircuit c r) := by
  refine ⟨rfl, rfl, rfl, rfl, rfl, rfl, rfl, rfl, rfl, .refl _, .refl _, fun _ => Nat.le_refl _, fun _ => rfl,
    fun _ => rfl, fun _ => rfl, Nat.le_refl _, id, fun k d => ?_⟩
  rw [State.circuit_setCircuit]
  split
  · next e => subst e; exact h (k c)
  · exact k d

theorem Quiet.changeLoop (s : State) (l : LoopId) (k : LoopCfg) (new : LoopState) (c : LoopCause)
    (hk : s.loopCfg l = some k) : Quiet s (s.changeLoop l k new c) := by
  unfold State.changeLoop
  dsimp only
  refine Quiet.trans ?_ (TapFrame.notify ..).quiet
  refine ⟨rfl, rfl, rfl, rfl, rfl, rfl, rfl, rfl, rfl, .refl _, .refl _, fun _ => Nat.le_refl _, fun _ => rfl,
    fun _ => rfl, fun _ => rfl, Nat.le_refl _, fun h m => ?_, id⟩
  have hm := h m
  by_cases e : l = m
  · subst e
    have hl : ∀ (r : Loop) (v : Valve), ((s.setLoop l r).driveValve l v).recomputeBudget.loop l = r := by
      intro r v
      exact (State.loop_setLoop s l l r).trans (if_pos rfl)
    refine ⟨?_, by rw [hl], by rw [hl]; simp⟩
    have hc : ∀ (r : Loop) (v : Valve), ((s.setLoop l r).driveValve l v).recomputeBudget.loopCfg l = some k :=
      fun _ _ => hk
    simp only [State.valveDue, hc, hl]
    simp [State.driveValve, State.recomputeBudget]
  · have hl : ∀ (r : Loop) (v : Valve), ((s.setLoop l r).driveValve l v).recomputeBudget.loop m = s.loop m := by
      intro r v
      exact (State.loop_setLoop s l m r).trans (if_neg e)
    have hn : l.val ≠ m.val := fun h => e (Fin.ext h)
    refine ⟨?_, by rw [hl]; exact hm.2.1, by rw [hl]; exact hm.2.2⟩
    have hc : ∀ (r : Loop) (v : Valve), ((s.setLoop l r).driveValve l v).recomputeBudget.loopCfg m = s.loopCfg m :=
      fun _ _ => rfl
    simp only [State.valveDue, hc, hl]
    have := hm.1
    simp only [State.valveDue] at this
    rw [← this]
    simp [State.driveValve, State.recomputeBudget, State.setLoop, hn]

/-! ## Trips -/

theorem Quiet.modCircuit (x : TripChange) (c : CircuitId) {g : Circuit → Circuit}
    (h : (x.st.circuit c).transient = true → (x.st.circuit c).request = .none →
      (g (x.st.circuit c)).transient = true → (g (x.st.circuit c)).request = .none)
    (h0 : (x.st.circuit c).transient = false → (g (x.st.circuit c)).transient = true →
      (g (x.st.circuit c)).request = .none) : Quiet x.st (x.modCircuit c g).st := by
  refine Quiet.setCircuit x.st c fun k => ?_
  cases e : (x.st.circuit c).transient with
  | true => exact h e (k e)
  | false => exact h0 e

theorem Quiet.raiseCircuit (x : TripChange) (c : CircuitId) : Quiet x.st (x.raiseCircuit c).st := by
  have h := Quiet.modCircuit x c (g := fun r => { r with request := .pending, transient := false }) (by simp) (by simp)
  exact h

theorem Quiet.rejudge (x : TripChange) (c : CircuitId) : Quiet x.st (x.rejudge c).st := by
  unfold TripChange.rejudge
  split
  · exact .raiseCircuit x c
  · exact .refl _

theorem Quiet.withdraw (x : TripChange) (c : CircuitId) (k : WithdrawCause) : Quiet x.st (x.withdraw c k).st := by
  have h := Quiet.modCircuit x c
    (g := fun r => { r with request := .none, transient := k == .condition || r.transient }) (by simp) (by simp)
  exact h

theorem Quiet.conditionChange (x : TripChange) (c : CircuitId) (o n : Condition) :
    Quiet x.st (x.conditionChange c o n).st := by
  unfold TripChange.conditionChange
  dsimp only
  split
  · exact .raiseCircuit x c
  · split
    · exact .withdraw x c .condition
    · exact .refl _

theorem Quiet.loopChange (x : TripChange) (l : LoopId) (n : LoopState) : Quiet x.st (x.loopChange l n).st := by
  unfold TripChange.loopChange
  split
  · refine Quiet.trans (Quiet.setRequest x.st l .pending) (Quiet.foldl (fun t c => ?_) _ _)
    exact .setCircuit t c (by simp)
  · exact .refl _

theorem Quiet.take (k : SourceChange) (x : TripChange) : Quiet x.st (k.take x).st := by
  cases k with
  | loop l o n => exact .loopChange x l n
  | circuit c o n => exact .conditionChange x c o n

theorem Quiet.unmask (x : TripChange) (c : CircuitId) (k : Option UnmaskCause) : Quiet x.st (x.unmask c k).st := by
  unfold TripChange.unmask
  dsimp only
  refine Quiet.trans (Quiet.modCircuit x c (g := fun r => { r with masked := false }) ?_ ?_) ?_
  · intro _ h _; exact h
  · intro h e; rw [h] at e; cases e
  · cases k with
    | none => exact .rejudge _ c
    | some k =>
      have h := Quiet.rejudge (TripChange.note (x.modCircuit c fun r => { r with masked := false }) (.circuit c)
        (.unmasked k)) c
      exact h

theorem Quiet.foldTrip {α : Type} {g : TripChange → α → TripChange} (h : ∀ x a, Quiet x.st (g x a).st) (l : List α) :
    ∀ x, Quiet x.st (l.foldl g x).st := by
  induction l with
  | nil => exact fun x => .refl x.st
  | cons a l ih => exact fun x => (h x a).trans (ih (g x a))

theorem Quiet.setupUnmask (x : TripChange) : Quiet x.st x.setupUnmask.st := by
  refine Quiet.foldTrip (fun y c => ?_) _ x
  split
  · exact .unmask y c (some .setup)
  · exact .refl _

theorem Quiet.commitSeeing (x : TripChange) (seen : State → State) : Quiet x.st (x.commitSeeing seen) := by
  unfold TripChange.commitSeeing
  dsimp only
  generalize (seen x.st).heldNow = now
  have h0 := Quiet.setHeld x.st now
  have h1 := (h0.trans (TapFrame.foldl TapFrame.zeroFurnace (now.filter fun f => !x.st.held.contains f) _).quiet).trans
    (TapFrame.refreshPower _).quiet
  have h2 := h1.trans (Quiet.foldl (fun t (r : Raise) =>
    (TapFrame.foldl (g := fun t f => t.writeFault f (.cooling r.code r.source t.uptime))
      (fun t f => TapFrame.writeFault t f _) r.written t).quiet) x.raises _)
  have h3 := h2.trans (TapFrame.foldl (g := fun t (n : TripNotice) => t.notify (.trip { n with held := now }))
    (fun t n => TapFrame.notify t _) x.notices _).quiet
  exact .ite h3 (h3.trans (TapFrame.tapChange ..).quiet)

theorem Quiet.commit (x : TripChange) : Quiet x.st x.commit := .commitSeeing x _

theorem Quiet.handChanges (l : List SourceChange) : ∀ s, Quiet s (State.handChanges l s) := by
  induction l with
  | nil => exact Quiet.refl
  | cons x l ih => exact fun s => ((Quiet.take x s.tripStart).trans (.commitSeeing _ _)).trans (ih _)

theorem Quiet.loopMove (s : State) (l : LoopId) (k : LoopCfg) (n : LoopState) (c : LoopCause)
    (hk : s.loopCfg l = some k) : Quiet s (s.loopMove l k n c) :=
  ((Quiet.changeLoop s l k n c hk).trans (.handChanges ..)).trans (TapFrame.refreshPower _).quiet

theorem Quiet.expireReturn (s : State) (l : LoopId) : Quiet s (s.expireReturn l) := by
  unfold State.expireReturn
  split
  · next k hk => exact .ite (.loopMove s l k _ _ hk) (.refl s)
  · exact .refl s

/-! ## The scan completion -/

theorem Loop.takeSlot_state (x : Loop) (k : LoopCfg) (a : Option StationAnswer) :
    (x.takeSlot k a).state = x.state ∧ (x.takeSlot k a).healthySince = x.healthySince ∧
      (x.takeSlot k a).returnTimer = x.returnTimer ∧ (x.takeSlot k a).hold = x.hold := by
  unfold Loop.takeSlot
  split <;> exact ⟨rfl, rfl, rfl, rfl⟩

/-- R122: the return delay timer of a loop that stays EMERGENCY. -/
theorem Loop.timeReturn_sound (x : Loop) (k : LoopCfg) (u : Nat)
    (ht : x.returnTimer.isSome = x.healthySince.isSome)
    (hh : x.healthySince.isSome = true → x.state = .emergency ∧ x.hold = false) :
    (x.timeReturn k u).state = x.state ∧
      ((x.timeReturn k u).returnTimer.isSome = (x.timeReturn k u).healthySince.isSome) ∧
      ((x.timeReturn k u).healthySince.isSome = true →
        (x.timeReturn k u).state = .emergency ∧ (x.timeReturn k u).hold = false) := by
  unfold Loop.timeReturn
  split
  · exact ⟨rfl, ht, hh⟩
  · next he =>
    split
    · exact ⟨rfl, rfl, by simp⟩
    · split
      · next hb =>
        simp only [Bool.and_eq_true, Bool.not_eq_true'] at hb
        refine ⟨rfl, rfl, fun _ => ⟨?_, hb.1⟩⟩
        simpa using he
      · exact ⟨rfl, ht, hh⟩

theorem Quiet.takeLoop (x : State × List SourceChange) (l : LoopId) (a : Option StationAnswer) :
    Quiet x.1 (State.takeLoop x l a).1 := by
  obtain ⟨s, changes⟩ := x
  unfold State.takeLoop
  dsimp only
  cases hk : s.loopCfg l with
  | none => exact .refl s
  | some k =>
    dsimp only
    have hs := Loop.takeSlot_state (s.loop l) k a
    cases hj : ((s.loop l).takeSlot k a).judge with
    | some nc =>
      obtain ⟨new, cause⟩ := nc
      dsimp only
      refine Quiet.trans (.setLoop s l hs.1 (fun h => ?_) (fun h => ?_)) (.changeLoop _ l k new cause hk)
      · rw [hs.2.1, hs.2.2.1]; exact h
      · rw [hs.1, hs.2.1, hs.2.2.2]; exact h
    | none =>
      dsimp only
      have key := fun ht hh => Loop.timeReturn_sound ((s.loop l).takeSlot k a) k s.uptime ht hh
      rw [hs.1, hs.2.1, hs.2.2.1, hs.2.2.2] at key
      by_cases hst : ((s.loop l).takeSlot k a).state = .emergency
      · have he : (((s.loop l).takeSlot k a).timeReturn k s.uptime).state = (s.loop l).state := by
          unfold Loop.timeReturn
          repeat' split
          all_goals exact hs.1
        refine .setLoop s l he (fun h => ?_) (fun h => ?_)
        · unfold Loop.timeReturn
          rw [if_neg (by simp [hst])]
          split
          · rfl
          · split
            · rfl
            · rw [hs.2.1, hs.2.2.1]; exact h
        · unfold Loop.timeReturn
          rw [if_neg (by simp [hst])]
          split
          · simp
          · split
            · next hb =>
              simp only [Bool.and_eq_true, Bool.not_eq_true'] at hb
              exact fun _ => ⟨hst, hb.1⟩
            · rw [hs.1, hs.2.1, hs.2.2.2]; exact h
      · have : ((s.loop l).takeSlot k a).timeReturn k s.uptime = (s.loop l).takeSlot k a := by
          unfold Loop.timeReturn
          rw [if_pos (by simpa using hst)]
        rw [this]
        refine .setLoop s l hs.1 (fun h => ?_) (fun h => ?_)
        · rw [hs.2.1, hs.2.2.1]; exact h
        · rw [hs.1, hs.2.1, hs.2.2.2]; exact h

theorem Circuit.takeSlot_keeps (x : Circuit) (k : CircuitCfg) (a : Option StationAnswer) :
    (x.takeSlot k a).request = x.request ∧ (x.takeSlot k a).transient = x.transient ∧
      (x.takeSlot k a).masked = x.masked := by
  unfold Circuit.takeSlot
  repeat' split
  all_goals exact ⟨rfl, rfl, rfl⟩

theorem Quiet.takeCircuit (x : State × List SourceChange) (c : CircuitId) (a : Option StationAnswer) :
    Quiet x.1 (State.takeCircuit x c a).1 := by
  obtain ⟨s, changes⟩ := x
  unfold State.takeCircuit
  dsimp only
  cases s.circuitCfg c with
  | none => exact .refl s
  | some k =>
    have hs := Circuit.takeSlot_keeps (s.circuit c) k a
    exact .setCircuit s c fun h => by rw [hs.1, hs.2.1]; exact h

theorem Quiet.foldFst {α β : Type} {g : State × β → α → State × β} (h : ∀ x a, Quiet x.1 (g x a).1) (l : List α) :
    ∀ x, Quiet x.1 (l.foldl g x).1 := by
  induction l with
  | nil => exact fun x => .refl x.1
  | cons a l ih => exact fun x => (h x a).trans (ih (g x a))

theorem Quiet.takeLoops (s : State) (slots : Slots) (ls : List LoopId) : Quiet s (s.takeLoops slots ls).1 :=
  Quiet.foldFst (g := fun x l => State.takeLoop x l slots.loops[l]) (fun x l => Quiet.takeLoop x l _) ls (s, [])

theorem Quiet.completeScan (s : State) (slots : Slots) : Quiet s (s.completeScan slots) := by
  unfold State.completeScan
  split
  · exact .refl s
  · next _ cause _ =>
    dsimp only
    refine Quiet.trans ?_ (TapFrame.refreshPower _).quiet
    refine Quiet.trans ?_ (.handChanges ..)
    refine Quiet.trans (Quiet.scanDone s .idle (some ⟨s.uptime, cause⟩)) ?_
    refine Quiet.trans (Quiet.takeLoops _ slots loopIds) ?_
    exact Quiet.foldFst (g := fun y c => State.takeCircuit y c slots.circuits[c])
      (fun x c => Quiet.takeCircuit x c _) circuitIds _

end Sys2Proof.Machine
end

