-- ==== Sys2Proof/Laws/Scheduled.lean ====
section
/-! SUPPORT. The frame `Scheduled` of the tap scheduler's operations where no tap ends: what they leave of every furnace, of
every supply and of every record of the tap queue. -/

namespace Sys2Proof.Machine

theorem Bystander.refl (r : Furnace) : Bystander r r := by
  constructor
  all_goals first | rfl | exact Nat.le_refl _ | exact .inl rfl

theorem Bystander.trans {p q r : Furnace} (a : Bystander p q) (b : Bystander q r) : Bystander p r where
  service := b.service.trans a.service
  heatNo := b.heatNo.trans a.heatNo
  grade := b.grade.trans a.grade
  mass := b.mass.trans a.mass
  approved := b.approved.trans a.approved
  allowance := b.allowance.trans a.allowance
  extensions := b.extensions.trans a.extensions
  overheld := b.overheld.trans a.overheld
  freezeRisk := b.freezeRisk.trans a.freezeRisk
  tempUnknown := b.tempUnknown.trans a.tempUnknown
  energyWh := b.energyWh.trans a.energyWh
  fault := b.fault.trans a.fault
  bath := b.bath.trans a.bath
  setClass := b.setClass.trans a.setClass
  rush := b.rush.trans a.rush
  starvCounter := b.starvCounter.trans a.starvCounter
  starvLeft := b.starvLeft.trans a.starvLeft
  grant := Nat.le_trans b.grant a.grant
  phase := by
    rcases b.phase with h | ⟨h, k⟩
    · rw [h]; exact a.phase
    · rcases a.phase with i | ⟨i, j⟩
      · exact .inr ⟨i ▸ h, k⟩
      · rw [j] at h; cases h

theorem SupplyKeeps.refl (r : Supply) : SupplyKeeps r r := ⟨rfl, .inl ⟨rfl, rfl, rfl⟩⟩

theorem SupplyKeeps.trans {p q r : Supply} (a : SupplyKeeps p q) (b : SupplyKeeps q r) : SupplyKeeps p r := by
  refine ⟨b.attempts.trans a.attempts, ?_⟩
  rcases b.state with ⟨h1, h2, h3⟩ | ⟨h0, h1, h2, h3⟩
  · rw [h1, h2, h3]; exact a.state
  · rcases a.state with ⟨k1, _, _⟩ | ⟨k0, k1, k2, k3⟩
    · exact .inr ⟨k1 ▸ h0, h1, h2, h3⟩
    · exact .inr ⟨k0, h1, h2, h3⟩

/-- R95, R100: a new total. -/
theorem SupplyKeeps.takeTotal (r : Supply) (n : Nat) : SupplyKeeps r (r.takeTotal n) := by
  unfold Supply.takeTotal
  split
  · next h =>
    simp only [Bool.and_eq_true] at h
    exact ⟨rfl, .inr ⟨h.2, rfl, rfl, rfl⟩⟩
  · exact ⟨rfl, .inl ⟨rfl, rfl, rfl⟩⟩

theorem Scheduled.refl (s : State) : Scheduled s s := ⟨.refl s, fun _ => .refl _, fun _ => .refl _, rfl⟩

theorem Scheduled.trans {s t u : State} (a : Scheduled s t) (b : Scheduled t u) : Scheduled s u :=
  ⟨a.only.trans b.only, fun f => (a.furnaces f).trans (b.furnaces f), fun u => (a.supplies u).trans (b.supplies u),
    b.queue.trans a.queue⟩

theorem Scheduled.foldl {α : Type} {g : State → α → State} (h : ∀ s a, Scheduled s (g s a)) (l : List α) :
    ∀ s, Scheduled s (l.foldl g s) := by
  induction l with
  | nil => exact Scheduled.refl
  | cons a l ih => intro s; exact (h s a).trans (ih (g s a))

theorem Scheduled.dite {c : Prop} [Decidable c] {s t u : State} (a : c → Scheduled s t) (b : ¬c → Scheduled s u) :
    Scheduled s (if c then t else u) := by
  split
  · next h => exact a h
  · next h => exact b h

theorem Scheduled.ite {c : Prop} [Decidable c] {s t u : State} (a : Scheduled s t) (b : Scheduled s u) :
    Scheduled s (if c then t else u) := by split <;> assumption

theorem Scheduled.setFurnace (s : State) (f : FurnaceId) {r : Furnace} (h : Bystander (s.furnace f) r) :
    Scheduled s (s.setFurnace f r) := by
  refine ⟨by constructor <;> rfl, fun g => ?_, fun _ => .refl _, rfl⟩
  rw [State.furnace_setFurnace]
  split
  · next e => subst e; exact h
  · exact .refl _

theorem Scheduled.modPower (s : State) (f : FurnaceId) {g : Power → Power}
    (h : ∀ p, (g p).setClass = p.setClass ∧ (g p).rush = p.rush ∧ (g p).starvCounter = p.starvCounter ∧
      (g p).starvLeft = p.starvLeft ∧ (g p).grant ≤ p.grant) : Scheduled s (s.modPower f g) := by
  have k := h (s.furnace f).power
  exact .setFurnace s f ⟨rfl, rfl, rfl, rfl, rfl, rfl, rfl, rfl, rfl, rfl, rfl, rfl, rfl, k.1, k.2.1, k.2.2.1, k.2.2.2.1,
    k.2.2.2.2, .inl rfl⟩

theorem Scheduled.setSupply (s : State) (u : SupplyId) {r : Supply} (h : SupplyKeeps (s.supply u) r) :
    Scheduled s (s.setSupply u r) := by
  refine ⟨by constructor <;> rfl, fun _ => .refl _, fun v => ?_, rfl⟩
  rw [State.supply_setSupply]
  split
  · next e => subst e; exact h
  · exact .refl _

theorem Scheduled.notify (s : State) (b : NoticeBody) : Scheduled s (s.notify b) :=
  ⟨by constructor <;> rfl, fun _ => .refl _, fun _ => .refl _, rfl⟩

theorem Scheduled.modTap (s : State) (id : Nat) {g : Tap → Tap} (h : ∀ r, (g r).fixed = r.fixed) :
    Scheduled s (s.modTap id g) := by
  refine ⟨by constructor <;> rfl, fun _ => .refl _, fun _ => .refl _, ?_⟩
  simp only [State.modTap, List.map_map]
  apply List.map_congr_left
  intro r _
  simp only [Function.comp_apply]
  split
  · exact h r
  · rfl

theorem Scheduled.matcher (s : State) (f : FurnaceId) : Scheduled s { s with matcher := f } :=
  ⟨by constructor <;> rfl, fun _ => .refl _, fun _ => .refl _, rfl⟩

theorem Scheduled.heatNotice (s : State) (f : FurnaceId) (e : HeatEvent) : Scheduled s (s.heatNotice f e) := .notify s _
theorem Scheduled.tapNotice (s : State) (r : Tap) (e : TapEvent) : Scheduled s (s.tapNotice r e) := .notify s _
theorem Scheduled.powerNotice (s : State) (f : FurnaceId) (e : PowerEvent) : Scheduled s (s.powerNotice f e) :=
  .notify s _
theorem Scheduled.supplyNotice (s : State) (u : SupplyId) (e : SupplyEvent) : Scheduled s (s.supplyNotice u e) :=
  .notify s _

/-! ## Power -/

theorem Scheduled.handTotal (s : State) (u : SupplyId) : Scheduled s (s.handTotal u) := by
  unfold State.handTotal
  exact .ite (.setSupply s u (.takeTotal ..)) (.refl s)

theorem Scheduled.handTotals (s : State) : Scheduled s s.handTotals := .foldl Scheduled.handTotal _ s

theorem Scheduled.refreshDemands (s : State) : Scheduled s s.refreshDemands := by
  unfold State.refreshDemands
  refine Scheduled.foldl (fun t f => ?_) _ s
  exact .modPower t f fun p => ⟨rfl, rfl, rfl, rfl, Nat.le_refl _⟩

theorem Scheduled.refreshCaps (s : State) : Scheduled s s.refreshCaps := by
  unfold State.refreshCaps
  refine Scheduled.foldl (fun t f => ?_) _ s
  exact .modPower t f fun p => ⟨rfl, rfl, rfl, rfl, Nat.le_refl _⟩

theorem Scheduled.refreshPower (s : State) : Scheduled s s.refreshPower :=
  (Scheduled.refreshDemands s).trans (.refreshCaps _)

theorem Scheduled.reductionPass (s : State) : Scheduled s s.reductionPass := by
  unfold State.reductionPass
  generalize s.figures = l
  refine Scheduled.trans (Scheduled.foldl (fun t f => ?_) _ s) (.handTotals _)
  exact .modPower t f fun p => ⟨rfl, rfl, rfl, rfl, Nat.min_le_left _ _⟩

theorem Scheduled.settle (s : State) (fell : Bool) : Scheduled s (s.settle fell) := by
  unfold State.settle
  exact .ite (.reductionPass s) (.refl s)

theorem Scheduled.settleFrom (s before : State) : Scheduled s (s.settleFrom before) := .settle s _

/-! ## Heat unit and tap scheduler -/

theorem Scheduled.followSetpoint (s : State) (f : FurnaceId) : Scheduled s (s.followSetpoint f) := by
  unfold State.followSetpoint
  refine Scheduled.trans ?_ (.refreshPower _)
  exact .setFurnace s f ⟨rfl, rfl, rfl, rfl, rfl, rfl, rfl, rfl, rfl, rfl, rfl, rfl, rfl, rfl, rfl, rfl, rfl,
    Nat.le_refl _, .inl rfl⟩

theorem Scheduled.recomputeClass (s : State) (f : FurnaceId) : Scheduled s (s.recomputeClass f) :=
  .modPower s f fun _ => ⟨rfl, rfl, rfl, rfl, Nat.le_refl _⟩

/-- R160, step 5: a HOLDING furnace goes to SUPERHEAT for a tap. -/
theorem Scheduled.tapHeat (s : State) (f : FurnaceId) (h : (s.furnace f).phase = .holding) :
    Scheduled s (s.phaseSteps f .superheat .tapHeat) := by
  refine Scheduled.trans (t := s.enterPhase f .superheat) ?_ (.heatNotice ..)
  refine Scheduled.trans (t := s.setFurnace f { (s.furnace f).clearForPhase .superheat with phase := .superheat }) ?_
    (.refreshPower _)
  exact .setFurnace s f ⟨rfl, rfl, rfl, rfl, rfl, rfl, rfl, rfl, rfl, rfl, rfl, rfl, rfl, rfl, rfl, rfl, rfl,
    Nat.le_refl _, .inr ⟨h, rfl⟩⟩

theorem Scheduled.staleDipRequest (s : State) (f : FurnaceId) : Scheduled s (s.staleDipRequest f) := by
  unfold State.staleDipRequest
  dsimp only
  split
  · exact .ite ((Scheduled.heatNotice ..).trans (.modTap _ _ fun _ => rfl)) (.refl s)
  · exact .refl s

theorem Scheduled.evaluate (s : State) (f : FurnaceId) : Scheduled s (s.evaluate f) := by
  unfold State.evaluate
  dsimp only
  refine .ite ?_ (.refl s)
  refine Scheduled.trans ?_ (.staleDipRequest _ _)
  have h := Scheduled.setFurnace s f
    (r := { s.furnace f with blocking := s.blockingNow f, tapReady := (s.blockingNow f).isEmpty })
    ⟨rfl, rfl, rfl, rfl, rfl, rfl, rfl, rfl, rfl, rfl, rfl, rfl, rfl, rfl, rfl, rfl, rfl, Nat.le_refl _, .inl rfl⟩
  exact .ite h (h.trans (.notify ..))

theorem Scheduled.evaluateAll (s : State) (fs : List FurnaceId) : Scheduled s (s.evaluateAll fs) :=
  .foldl Scheduled.evaluate fs s

theorem Scheduled.setAssigned (s : State) (f : FurnaceId) (x : Option Nat) :
    Scheduled s (s.modFurnace f fun r => { r with assigned := x }) :=
  .setFurnace s f ⟨rfl, rfl, rfl, rfl, rfl, rfl, rfl, rfl, rfl, rfl, rfl, rfl, rfl, rfl, rfl, rfl, rfl, Nat.le_refl _,
    .inl rfl⟩

theorem Scheduled.assign (s : State) (id : Nat) (f : FurnaceId) (d : Bool) (e : State → TapEvent) :
    Scheduled s (s.assign id f d e) := by
  unfold State.assign
  dsimp only
  refine Scheduled.trans ?_ (.evaluate _ _)
  have h1 := Scheduled.modTap s id (g := fun r =>
    { r with state := .assigned, assigned := some f, chosen := (s.furnace f).grade, downgraded := d, staleSent := false })
    fun _ => rfl
  have h3 := ((h1.trans (.setAssigned _ f (some id))).trans (.followSetpoint _ f)).trans (.recomputeClass _ f)
  refine .dite (fun hc => ?_) (fun _ => ?_)
  · simp only [Bool.and_eq_true, beq_iff_eq] at hc
    refine Scheduled.trans ?_ (.tapHeat _ f hc.1)
    split
    · exact h3.trans (.tapNotice ..)
    · exact h3
  · split
    · exact h3.trans (.tapNotice ..)
    · exact h3

theorem Scheduled.part1and2 (s : State) (id : Nat) (f : FurnaceId) : Scheduled s (s.part1and2 id f) := by
  unfold State.part1and2
  have h1 := (Scheduled.setAssigned s f none).trans (.followSetpoint _ f)
  have h2 := h1.trans (Scheduled.modTap _ id (g := fun r =>
    { r with assigned := none, chosen := none, downgraded := false, staleSent := false }) fun _ => rfl)
  exact h2.trans (.recomputeClass _ f)

/-- R161, step 3: the pin moves to the standby. -/
theorem Scheduled.repin (s : State) (id : Nat) (x : FurnaceId) :
    Scheduled s (s.modTap id fun q => { q with pinned := some x, redirected := true }) := .modTap s id fun _ => rfl

/-- R161, step 4: the record is OPEN again. -/
theorem Scheduled.reopen (s : State) (id : Nat) : Scheduled s (s.modTap id fun q => { q with state := .opened }) :=
  .modTap s id fun _ => rfl

theorem Scheduled.release (s : State) (r : Tap) (f : FurnaceId) : Scheduled s (s.release r f) := by
  unfold State.release
  dsimp only
  have h := Scheduled.part1and2 s r.id f
  split
  · exact (h.trans (.repin _ r.id _)).trans (.assign ..)
  · have h2 := h.trans (.reopen _ r.id)
    split
    · exact h2.trans (.tapNotice ..)
    · exact h2

theorem Scheduled.visitRecord (s : State) (id : Nat) : Scheduled s (s.visitRecord id) := by
  unfold State.visitRecord
  split
  · refine .ite ?_ (.refl s)
    split
    · exact (Scheduled.assign ..).trans (.matcher ..)
    · exact .refl s
  · exact .refl s

theorem Scheduled.matchingPass (s : State) : Scheduled s s.matchingPass := .foldl Scheduled.visitRecord _ s

/-- R158, R167: where no furnace of the list is both trip-held and tapped, step 1 ends nothing. -/
theorem State.judgeStarted_idle (s : State) (f : FurnaceId)
    (h : ∀ r, s.tapOn f = some r → r.state = .started → s.isHeld f = false) : s.judgeStarted f = s := by
  unfold State.judgeStarted
  split
  · next r hr =>
    split
    · next hc =>
      simp only [Bool.and_eq_true, beq_iff_eq] at hc
      rw [h r hr hc.1] at hc
      exact absurd hc.2 (by decide)
    · rfl
  · rfl

theorem State.foldl_judgeStarted_idle (s : State) (fs : List FurnaceId)
    (h : ∀ f ∈ fs, ∀ r, s.tapOn f = some r → r.state = .started → s.isHeld f = false) :
    fs.foldl State.judgeStarted s = s := by
  induction fs with
  | nil => rfl
  | cons f fs ih =>
    rw [List.foldl_cons, State.judgeStarted_idle s f (h f (List.mem_cons_self ..))]
    exact ih fun g hg => h g (List.mem_cons_of_mem _ hg)

theorem Scheduled.judgeAssigned (x : State × List FurnaceId) (f : FurnaceId) :
    Scheduled x.1 (State.judgeAssigned x f).1 := by
  unfold State.judgeAssigned
  split
  · dsimp only
    split
    · exact .release ..
    · exact .refl _
  · exact .refl _

theorem Scheduled.judgeAssignedAll (fs : List FurnaceId) :
    ∀ x : State × List FurnaceId, Scheduled x.1 (fs.foldl State.judgeAssigned x).1 := by
  induction fs with
  | nil => exact fun x => .refl x.1
  | cons f fs ih => exact fun x => (Scheduled.judgeAssigned x f).trans (ih _)

/-- R158: a change that finds no STARTED request on a trip-held furnace ends no tap. -/
theorem Scheduled.tapChange (s : State) (fs : List FurnaceId)
    (h : ∀ f ∈ fs, ∀ r, s.tapOn f = some r → r.state = .started → s.isHeld f = false) :
    Scheduled s (s.tapChange fs) := by
  unfold State.tapChange
  rw [State.foldl_judgeStarted_idle s fs h]
  dsimp only
  exact ((Scheduled.judgeAssignedAll fs (s, [])).trans (.evaluateAll ..)).trans (.matchingPass _)

end Sys2Proof.Machine
end

