-- ==== Sys2Proof/Laws/Requests.lean ====
section
/-! SUPPORT. What a request does around its owner's judgement: the checks of the link unit passed or failed, the settling,
the reply, and what the ports gain. -/

namespace Sys2Proof.Machine

/-! ## Ports and frames -/

theorem SchedulerOnly.setPort (s : State) (p : Port) (u : PortUnit) : SchedulerOnly s (s.setPort p u) := by
  cases p <;> constructor <;> rfl

theorem Scheduled.setPort (s : State) (p : Port) (u : PortUnit) : Scheduled s (s.setPort p u) := by
  cases p <;> exact ⟨by constructor <;> rfl, fun _ => .refl _, fun _ => .refl _, rfl⟩

theorem Scheduled.ofSetPort (s : State) (p : Port) (u : PortUnit) : Scheduled (s.setPort p u) s := by
  cases p <;> exact ⟨by constructor <;> rfl, fun _ => .refl _, fun _ => .refl _, rfl⟩

theorem Scheduled.toHunt (s : State) (p : Port) : Scheduled s (s.toHunt p) := .setPort ..
theorem Scheduled.ofToHunt (s : State) (p : Port) : Scheduled (s.toHunt p) s := .ofSetPort ..
theorem Scheduled.formReply (s : State) (h : Hdr) (k : Byte) (st : Status) (r : Option Reason) (d : ReplyData) :
    Scheduled s (s.formReply h k st r d) := .setPort ..

theorem Noticed.refl (s : State) : Noticed s s := ⟨.refl _, .refl _⟩

theorem Noticed.trans {s t u : State} (a : Noticed s t) (b : Noticed t u) : Noticed s u :=
  ⟨a.sup.trans b.sup, a.deck.trans b.deck⟩

theorem TapFrame.noticed {s t : State} (h : TapFrame s t) : Noticed s t := ⟨h.sup, h.deck⟩
theorem Quiet.noticed {s t : State} (h : Quiet s t) : Noticed s t := ⟨h.sup, h.deck⟩

theorem Noticed.port {s t : State} (h : Noticed s t) (p : Port) : PortKeeps (s.port p) (t.port p) := by
  cases p
  · exact h.sup
  · exact h.deck

/-! ## The reply -/

theorem State.port_toHunt_other (s : State) (p : Port) : (s.toHunt p).port p.other = s.port p.other := by
  cases p <;> rfl

theorem State.port_toHunt_self (s : State) (p : Port) : (s.toHunt p).port p = { s.port p with framer := .hunt } := by
  cases p <;> rfl

theorem State.port_formReply_self (s : State) (h : Hdr) (k : Byte) (st : Status) (r : Option Reason) (d : ReplyData) :
    (s.formReply h k st r d).port h.port =
      { s.port h.port with replies := (s.port h.port).replies ++ [⟨h.tag, k, st, r, (s.port h.port).lost, d⟩] } := by
  obtain ⟨p, _, _⟩ := h
  cases p <;> rfl

theorem State.port_formReply_other (s : State) (h : Hdr) (k : Byte) (st : Status) (r : Option Reason) (d : ReplyData) :
    (s.formReply h k st r d).port h.port.other = s.port h.port.other := by
  obtain ⟨p, _, _⟩ := h
  cases p <;> rfl

/-- A state that gained notices only since the frame was taken, and then the reply, has been answered. -/
theorem Answered.of_noticed {s n t : State} (h : Hdr) (k : Kind) (st : Status) (r : Option Reason) (d : ReplyData)
    (hp : ∀ p, n.port p = (s.port p) ∨ n.port p = { s.port p with framer := .hunt })
    (hn : Noticed n t) (hh : (n.port h.port).framer = .hunt) (ho : n.port h.port.other = s.port h.port.other) :
    Answered s (t.formReply h k.code st r d) h k st r d := by
  have own := hn.port h.port
  have other := hn.port h.port.other
  refine ⟨?_, ?_⟩
  · rw [State.port_formReply_self]
    have e : (n.port h.port).replies = (s.port h.port).replies ∧ (n.port h.port).sending = (s.port h.port).sending ∧
        (n.port h.port).notices = (s.port h.port).notices ∧ (n.port h.port).lost = (s.port h.port).lost := by
      rcases hp h.port with e | e <;> rw [e] <;> exact ⟨rfl, rfl, rfl, rfl⟩
    refine ⟨own.framer.trans hh, ?_, own.sending.trans e.2.1, e.2.2.1 ▸ own.notices, fun b => own.bound (e.2.2.1 ▸ b),
      fun b => own.lost (e.2.2.2 ▸ b)⟩
    simp only [own.replies, e.1]
  · rw [State.port_formReply_other, ← ho]
    exact other

/-! ## Settling and serving -/

/-- Nothing has fallen since the state itself. -/
@[simp] theorem State.settleFrom_self (s : State) : s.settleFrom s = s := by
  simp [State.settleFrom, State.settle, State.fallenSince]

/-- R176: a request that passes the checks of the link unit reaches its owner. -/
theorem serve_admitted {h : Hdr} {k : Kind} {len : Nat} {owner : State → Judged} {s : State} (ha : s.admits h k len) :
    receive h (serve h k len owner) s =
      .next ((owner (s.toHunt h.port)).finish h k.code (s.toHunt h.port)) := by
  obtain ⟨h1, h2, h3⟩ := ha
  have h4 : ¬ 4 ≤ ((s.toHunt h.port).port h.port).replies.length := by
    rw [State.port_toHunt_self]
    exact Nat.not_le.mpr h1
  simp [receive, serve, h4, h2, h3]

/-- R176, first check: a full reply queue. -/
theorem serve_full {h : Hdr} {k : Kind} {len : Nat} {owner : State → Judged} {s : State}
    (hf : 4 ≤ (s.port h.port).replies.length) : receive h (serve h k len owner) s = .next (s.toHunt h.port) := by
  have h4 : 4 ≤ ((s.toHunt h.port).port h.port).replies.length := by
    rw [State.port_toHunt_self]
    exact hf
  simp [receive, serve, h4]

/-- R176, third check: a body of the wrong length. -/
theorem serve_badLength {h : Hdr} {k : Kind} {len : Nat} {owner : State → Judged} {s : State}
    (hf : (s.port h.port).replies.length < 4) (hl : h.len ≠ len) :
    receive h (serve h k len owner) s = .next (s.answered h k .refused (some .badLength) .nothing) := by
  have h4 : ¬ 4 ≤ ((s.toHunt h.port).port h.port).replies.length := by
    rw [State.port_toHunt_self]
    exact Nat.not_le.mpr hf
  simp [receive, serve, h4, hl, State.answered]

/-- R176, fourth check: a kind the port may not send. -/
theorem serve_notPermitted {h : Hdr} {k : Kind} {len : Nat} {owner : State → Judged} {s : State}
    (hf : (s.port h.port).replies.length < 4) (hl : h.len = len) (hp : k.permitted h.port = false) :
    receive h (serve h k len owner) s = .next (s.answered h k .refused (some .notPermitted) .nothing) := by
  have h4 : ¬ 4 ≤ ((s.toHunt h.port).port h.port).replies.length := by
    rw [State.port_toHunt_self]
    exact Nat.not_le.mpr hf
  simp [receive, serve, h4, hl, hp, State.answered]

/-- A refusal that its owner orders. -/
@[simp] theorem Judged.finish_refuse (s : State) (r : Reason) (d : ReplyData) (h : Hdr) (k : Byte) :
    (s.refuse r d).finish h k s = s.formReply h k .refused (some r) d := by
  simp [Judged.finish, State.refuse, State.afterReply]

/-- A request that was taken, with nothing to follow its reply. -/
@[simp] theorem Judged.finish_ok (s t : State) (d : ReplyData) (h : Hdr) (k : Byte) :
    (t.ok d).finish h k s = (t.settleFrom s).formReply h k .ok none d := rfl

@[simp] theorem Judged.finish_taken (s t : State) (c : Bool) (d : ReplyData) (h : Hdr) (k : Byte) :
    (t.taken c d).finish h k s = (t.settleFrom s).formReply h k (takenStatus c) none d := rfl

end Sys2Proof.Machine
end

