-- ==== Sys2Proof/Tests/Slice0.lean ====
section
/-! SUPPORT. Tests: ill-formed commands that WellFormed refuses, frames written out byte by byte from R182 and R183,
worked figures of the manual, and for every statement with hypotheses a state and operands that meet them. -/

open Sys2Proof Sys2Proof.Machine

namespace Sys2Proof.Tests

/-! ## States -/

def hdr (n : Nat) : Hdr := ⟨.sup, 7, n⟩
def deckHdr (n : Nat) : Hdr := ⟨.deck, 7, n⟩

def cfgF (n : Fin 3) : FurnaceCfg := ⟨8000, 3500, 75, 80, 20, 1500, 30, 0, n⟩
def cfgG : GradeCfg := ⟨1150, 1420, 1460, 20, 15, 840, 390, 60, 15⟩
def cfgL : LoopCfg := ⟨250, 30, 120, 150, 40, .emergency⟩
def cfgC : CircuitCfg := ⟨1, .furnace 1, 150, 100, 20, 45, 55, 3, .latching, 60⟩
def cfgS : SupplyCfg := ⟨4000, 80, 60, 3, false⟩

/-- One supply, furnaces F1 and F2, grade G3, loop L1 and circuit C3 on F1. -/
def tables : Tables :=
  { Tables.reset with
    supply := Tables.reset.supply.set 0 (some cfgS)
    furnace := (Tables.reset.furnace.set 1 (some (cfgF 0))).set 2 (some (cfgF 1))
    grade := Tables.reset.grade.set 3 (some cfgG)
    loop := Tables.reset.loop.set 1 (some cfgL)
    circuit := Tables.reset.circuit.set 3 (some cfgC) }

/-- The state with A, B, the trip-held set and the power figures at their formulas. -/
def settled (s : State) : State :=
  ({ s with held := s.heldNow
            budget := { s.budget with draw := s.drawNow, site := s.budget.ceiling - s.drawNow } } : State).refreshPower

/-- The shop in RUNNING with this record for F1. -/
def shop (r : Furnace) : State :=
  settled { State.reset with part := .running, tables := tables, furnaces := State.reset.furnaces.set 1 r }

/-- The shop in CONFIGURING. -/
def idleShop : State := settled { State.reset with tables := tables }

def emptyF : Furnace := { Furnace.fresh with phase := .empty }
def relineF : Furnace := { emptyF with service := .reline }
def holdingF : Furnace :=
  { Furnace.fresh with
    phase := .holding, heatNo := some 7, grade := some 3, mass := 5000, setpoint := some 1420
    allowance := some 3600, approved := true
    bath := { Bath.fresh with estimate := some 143000, lastDip := some ⟨1430, 0⟩ } }
def superF : Furnace :=
  { holdingF with phase := .superheat, allowance := none, bath := { holdingF.bath with estimate := some 140000 } }
def meltingF : Furnace :=
  { holdingF with
    phase := .melting, allowance := none
    bath := { Bath.fresh with required := some 7020000000, progress := some 0 } }

/-- A tap request of grade G3 for four ladles, in this state. -/
def tap (st : TapState) (f : Option FurnaceId) : Tap :=
  ⟨9, st, [3], 4, 300, 0, 600, none, false, f, f.map fun _ => 3, false, 0, false, false⟩

/-- The shop with one tap request waiting for a furnace. -/
def callShop (st : TapState) : State := { shop emptyF with queue := [tap st none] }

/-- The shop with a tap request on F1. -/
def tapShop (st : TapState) (ph : Phase) (estimate mass : Nat) : State :=
  settled
    { State.reset with
      part := .running, tables := tables, queue := [tap st (some 1)]
      furnaces := State.reset.furnaces.set 1
        { holdingF with phase := ph, mass := mass, setpoint := some 1460, assigned := some 9,
                        bath := { holdingF.bath with estimate := some estimate, lastDip := some ⟨estimate / 100, 0⟩ } } }

/-- The shop with this record for C3. -/
def circuitShop (r : Furnace) (c : Circuit) : State :=
  settled { shop r with circuits := State.reset.circuits.set 3 c }
/-- The shop with this record for L1. -/
def loopShop (r : Furnace) (l : Loop) (v : Valve) : State :=
  settled { shop r with loops := State.reset.loops.set 1 l, valves := State.reset.valves.set 1 v }
/-- The shop with this record for S0. -/
def supplyShop (x : Supply) (i : Inputs) : State :=
  settled { shop emptyF with supplies := State.reset.supplies.set 0 x, inputs := State.reset.inputs.set 0 i }
/-- The shop with this SUP port. -/
def portShop (p : PortUnit) : State := { shop emptyF with sup := p }

def aReply : Reply := ⟨7, 0x07, .ok, none, false, .nothing⟩
def aNotice : Notice := ⟨0, .heat ⟨1, none, .empty, .service .reline⟩⟩

/-- `PlantSound` as a check. -/
def plantCheck (s : State) : Bool :=
  decide (s.queue.Pairwise fun q r => q.id ≠ r.id) &&
  (s.queue.all fun r => r.state == .waiting || r.state == .opened || r.state == .assigned || r.state == .started) &&
  (s.queue.all fun r => r.assigned.isSome == (r.state == .assigned || r.state == .started)) &&
  (s.queue.all fun r => r.assigned.all fun f => s.configured f && (s.furnace f).assigned == some r.id &&
     (r.state != .started || ((s.furnace f).phase == .tapping && !s.isHeld f)) &&
     (r.state != .assigned || (s.furnace f).phase == .superheat || (s.furnace f).phase == .holding)) &&
  (furnaceIds.all fun f => (s.furnace f).assigned.all fun id =>
     s.queue.any fun r => r.id == id && r.assigned == some f) &&
  (s.part == .running || s.queue.isEmpty) &&
  (furnaceIds.all fun f => (s.furnace f).service == .inService || (s.furnace f).phase == .empty)

theorem mem_furnaceIds : ∀ f : FurnaceId, f ∈ furnaceIds := by decide

theorem plantSound_of_check {s : State} (h : plantCheck s = true) : PlantSound s := by
  simp only [plantCheck, Bool.and_eq_true, List.all_eq_true, decide_eq_true_eq] at h
  obtain ⟨⟨⟨⟨⟨⟨h1, h2⟩, h3⟩, h4⟩, h5⟩, h6⟩, h7⟩ := h
  have on (r : Tap) (hr : r ∈ s.queue) (f : FurnaceId) (hf : r.assigned = some f) := by
    have a := h4 r hr
    rw [hf] at a
    exact a
  refine ⟨h1, fun r hr => ?_, fun r hr => ?_, fun r hr f hf => ?_, fun r hr f hf hs => ?_, fun r hr f hf hs => ?_,
    fun f id hf => ?_, fun hp => ?_, fun f hf => ?_⟩
  · have a := h2 r hr
    simpa only [Bool.or_eq_true, beq_iff_eq, or_assoc] using a
  · have a := h3 r hr
    simp only [beq_iff_eq] at a
    rw [a]
    simp
  · have a := on r hr f hf
    simp only [Option.all_some, Bool.and_eq_true, beq_iff_eq] at a
    exact ⟨a.1.1.1, a.1.1.2⟩
  · have a := on r hr f hf
    simp [hs] at a
    exact a.2
  · have a := on r hr f hf
    simp [hs] at a
    exact a.2
  · have a := h5 f (mem_furnaceIds f)
    rw [hf] at a
    simp only [Option.all_some, List.any_eq_true, Bool.and_eq_true, beq_iff_eq] at a
    exact a
  · rw [hp] at h6
    simpa using h6
  · have a := h7 f (mem_furnaceIds f)
    rw [hf] at a
    simpa using a

theorem admitsSup (s : State) (k : Kind) (n : Nat) (h : s.sup.replies = []) : s.admits (hdr n) k n :=
  ⟨by rw [show (s.port (hdr n).port).replies = [] from h]; decide, rfl, rfl⟩

theorem plant_empty : PlantSound (shop emptyF) := plantSound_of_check (by decide)
theorem plant_holding : PlantSound (shop holdingF) := plantSound_of_check (by decide)
theorem derived_holding : DerivedSound (shop holdingF) := by constructor <;> decide
theorem plant_assigned : PlantSound (tapShop .assigned .holding 146000 5000) := plantSound_of_check (by decide)
theorem plant_started : PlantSound (tapShop .started .tapping 146000 5000) := plantSound_of_check (by decide)

/-! ## WellFormed refuses ill-formed commands -/

/-- A body of 199 bytes (R174). -/
theorem test_refuses_long_body : wellFormed (.commit (hdr 199)) = false := by decide
/-- DEFINE of the DEFINE length without its fields, and REMOVE with fields. -/
theorem test_refuses_absent_fields :
    wellFormed (.supplySetup (hdr 9) 0 0 none) = false ∧
    wellFormed (.loopSetup (hdr 2) 0 1 (some ⟨250, 30, 120, 150, 40, 1⟩)) = false ∧
    wellFormed (.furnaceSetup (hdr 15) 0 0 none) = false ∧ wellFormed (.gradeSetup (hdr 16) 0 0 none) = false ∧
    wellFormed (.circuitSetup (hdr 15) 0 0 none) = false := by decide
/-- A SITE SETUP whose entries are not as many as its count. -/
theorem test_refuses_count : wellFormed (.siteSetup (hdr 5) 0 1 []) = false := by decide
/-- A request kind is no unknown kind. -/
theorem test_refuses_known_kind : wellFormed (.unknownKind (hdr 0) 0x07) = false := by decide
/-- A stored frame whose CRC agrees (the frame of COMMIT with tag 7), and one that is cut short. -/
theorem test_refuses_good_crc :
    badFrameFits ((frameBytes 0x07 7 []).drop 1) = false ∧ badFrameFits [2, 0x07, 7, 0] = false ∧
    badFrameFits [2, 0x07, 7, 0, 0] = true := by
  set_option maxRecDepth 4000 in decide
theorem test_refuses_length_in_range :
    wellFormed (.lengthByteOutOfRange .sup 2) = false ∧ wellFormed (.lengthByteOutOfRange .sup 200) = false ∧
    wellFormed (.lengthByteOutOfRange .sup 1) = true ∧ wellFormed (.lengthByteOutOfRange .sup 201) = true := by decide
theorem test_refuses_id : wellFormed (.openTime 0) = false ∧ wellFormed (.closeTime 256) = false := by decide
theorem test_not_sized : wellSized (.commit (hdr 1)) = false ∧ wellSized .powerOn = false := by decide

/-! ## Frames from the tables of R182 and R183 -/

theorem test_decode_circuitSetup :
    decodeFrame .sup 0x06 9 [3, 0, 1, 0, 1, 0, 150, 0, 100, 20, 45, 55, 3, 0, 60] =
      .circuitSetup ⟨.sup, 9, 15⟩ 3 0 (some ⟨1, 0, 1, 150, 100, 20, 45, 55, 3, 0, 60⟩) := by decide
theorem test_decode_siteSetup :
    decodeFrame .sup 0x01 9 [0, 2, 5, 0x1B, 0x58, 9, 0, 1] = .siteSetup ⟨.sup, 9, 8⟩ 0 2 [(5, 7000), (9, 1)] := by decide
theorem test_decode_supplyRemove : decodeFrame .sup 0x02 9 [1, 1] = .supplySetup ⟨.sup, 9, 2⟩ 1 1 none := by decide
/-- 0x1388 is 5000 and 0x0102 is 258. -/
theorem test_decode_openHeat :
    decodeFrame .deck 0x21 4 [1, 0x01, 0x02, 3, 0x13, 0x88] = .openHeat ⟨.deck, 4, 6⟩ 1 258 3 5000 := by decide
theorem test_decode_scheduleSet :
    decodeFrame .sup 0x42 4 [11, 1, 0x3E, 0x05, 0x9F, 0x1B, 0x58] = .scheduleSet ⟨.sup, 4, 7⟩ 11 1 0x3E 1439 7000 := by
  decide
theorem test_decode_supplyHold : decodeFrame .sup 0x61 4 [3, 1] = .supplyHold ⟨.sup, 4, 2⟩ 3 1 := by decide
theorem test_decode_tapRequest :
    decodeFrame .sup 0x81 4 [9, 2, 3, 4, 0, 0, 8, 1, 0x2C, 0, 60, 2, 0x58, 0xFF] =
      .tapRequest ⟨.sup, 4, 14⟩ ⟨9, 2, 3, 4, 0, 0, 8, 300, 60, 600, 0xFF⟩ := by decide
theorem test_decode_tableReport : decodeFrame .deck 0xA2 4 [5, 15] = .tableReport ⟨.deck, 4, 2⟩ 5 15 := by decide
/-- A kind that the part sends is no request kind (R176). -/
theorem test_decode_unknown : decodeFrame .sup 0xC0 4 [] = .unknownKind ⟨.sup, 4, 0⟩ 0xC0 := by decide
theorem test_forty_six_kinds : allKinds.length = 46 ∧ (allKinds.map Kind.code).Nodup := by decide

/-! ## Worked figures of the manual, one step each -/

/-- The next state of a command. -/
def after (c : Instr) (s : State) : State :=
  match exec c s with
  | .next t => t
  | _ => s

/-- R49, first charge: 2000 kg into 3000 kg at 1450 °C. -/
theorem test_charge_to_melting :
    let f := (after (.charge (hdr 3) 1 2000)
      (shop { holdingF with mass := 3000, bath := { holdingF.bath with estimate := some 145000 } })).furnace 1
    f.phase = .melting ∧ f.mass = 5000 ∧ f.bath.required = some 2808000000 ∧ f.bath.progress = some 756000000 := by decide
/-- R49, second charge: 200 kg in its place. -/
theorem test_charge_mixed :
    let f := (after (.charge (hdr 3) 1 200)
      (shop { holdingF with mass := 3000, bath := { holdingF.bath with estimate := some 145000 } })).furnace 1
    f.phase = .superheat ∧ f.mass = 3200 ∧ f.bath.estimate = some 132678 ∧ f.bath.jacc = 15360 := by decide
/-- R47, heating, expiry 1: 6000 kg, 2450 kW on a RUNNING supply. -/
theorem test_liquid_step :
    let s := shop { holdingF with
      mass := 6000, bath := { holdingF.bath with estimate := some 140000 }, power := { Power.fresh with grant := 2450 } }
    let t := after (.modelInterval 1)
      { s with supplies := s.supplies.set 0 ⟨.running, 0, 2450, some ⟨.stableRun, 60⟩, false⟩ }
    (t.furnace 1).bath.estimate = some 140034 ∧ (t.furnace 1).bath.jacc = 13900 := by decide
/-- R47, cooling with P = 0, expiry 1: the quotient is truncated toward zero. -/
theorem test_cooling_step :
    let f := (after (.modelInterval 1)
      (shop { holdingF with mass := 6000, bath := { holdingF.bath with estimate := some 140000 } })).furnace 1
    f.bath.estimate = some 139998 ∧ f.bath.jacc = -9200 := by decide
/-- R45: a MASS REPORT of 2000 kg cuts a progress of 4 000 000 000 J to the new required energy. -/
theorem test_massReport_cuts :
    let f := (after (.massReport (hdr 3) 1 2000)
      (shop { meltingF with bath := { meltingF.bath with progress := some 4000000000 } })).furnace 1
    f.bath.required = some 2808000000 ∧ f.bath.progress = some 2808000000 := by decide
/-- R51: the demand at 1415 °C and setpoint 1420 is 248 kW. -/
theorem test_holding_demand :
    ((shop { holdingF with bath := { holdingF.bath with estimate := some 141500 } }).furnace 1).power.demand = 248 := by
  decide
/-- R84 to R86, the working tier: B = 6700 on two supplies. -/
def fourFurnaces : State :=
  let at_ (p : Phase) (c : PowerClass) (need : Nat) : Furnace :=
    { holdingF with phase := p, power := { Power.fresh with effClass := c, cap := need, need := need } }
  let cfg (coil : Nat) (u : SupplyId) (n : Fin 3) : Option FurnaceCfg := some { cfgF n with coil := coil, supply := u }
  { State.reset with
    part := .running
    tables := { Tables.reset with
      supply := (Tables.reset.supply.set 0 (some cfgS)).set 1 (some cfgS)
      furnace := (((Tables.reset.furnace.set 0 (cfg 1500 0 0)).set 1 (cfg 3500 0 1)).set 2 (cfg 3500 1 0)).set 3
        (cfg 3000 1 1) }
    budget := { Budget.reset with ceiling := 7000, draw := 300, site := 6700 }
    furnaces := (((State.reset.furnaces.set 0 (at_ .holding .standard 248)).set 1 (at_ .melting .standard 3200)).set 2
      (at_ .melting .economy 3200)).set 3 (at_ .superheat .expedite 3000) }

theorem test_working_tier :
    (List.ofFn fun f : FurnaceId => figureIn fourFurnaces.figures f) = [248, 2452, 1000, 3000, 0, 0] := by decide

/-- R5: a changed starvation floor waits for the next period pass. 50 % of 3500 kW is 1750 kW. -/
theorem test_floor_waits :
    let s := after (.siteSetup (hdr 5) 0 1 [(2, 50)]) (shop superF)
    s.site.starvFloor = 50 ∧ s.floorOf 1 = 350 ∧ (after .periodPass s).floorOf 1 = 1750 := by decide


/-! ## Hypotheses met: the invariants -/

theorem consistent_of {n : Nat} {α : Type} {v : Vector (Option α) n} (p : α → Bool)
    (h : ∀ i : Fin n, (v[i]).all p = true) {i : Fin n} {c : α} (hc : v[i] = some c) : p c = true := by
  have a := h i
  rw [hc] at a
  exact a

theorem pairs_tables : ∀ f g : FurnaceId, g < f → ((tables.furnace[f]).all fun c => (tables.furnace[g]).all fun d =>
    !(d.supply == c.supply && d.channel == c.channel)) = true := by decide

theorem consistent_tables : tables.Consistent where
  supply f c h := consistent_of (v := tables.furnace) (fun c => (tables.supply[c.supply]).isSome) (by decide) h
  channel f g c d hlt hc hd hh := by
    have b := pairs_tables f g hlt
    rw [hc, hd] at b
    simp [hh.1, hh.2] at b
  grade g k h := by
    have a := consistent_of (fun k => decide (k.liquidus < k.hold ∧ k.hold ≤ k.tap ∧ k.tap ≤ 1700))
      (by decide) h
    exact of_decide_eq_true a
  loop c k h := consistent_of (v := tables.circuit) (fun k => (tables.loop[k.loop]).isSome) (by decide) h
  target c k h := by
    have a := consistent_of (fun k => decide (k.target = .furnace 1)) (by decide) h
    rw [of_decide_eq_true a]
    exact (by decide : (tables.furnace[(1 : FurnaceId)]).isSome = true)
  flow c k h := by
    have a := consistent_of (fun k => decide (k.flowTrip < k.flowWarn)) (by decide) h
    exact of_decide_eq_true a
  temp c k h := by
    have a := consistent_of (fun k => decide (k.tempWarn < k.tempTrip)) (by decide) h
    exact of_decide_eq_true a

theorem portSound_fresh : PortSound PortUnit.fresh := ⟨by decide, by decide, nofun, nofun, nofun⟩

theorem witness_SoundKept :
    Sound ((shop holdingF).withPending [.periodPass]) ∧
      ∃ t, step ((shop holdingF).withPending [.periodPass]) = .next t :=
  ⟨⟨portSound_fresh, portSound_fresh, by decide, by unfold LoopsSound; decide, by unfold MarksSound; decide,
    by unfold RushSound; decide⟩, ⟨_, rfl⟩⟩
theorem witness_PlantSoundKept :
    PlantSound ((tapShop .started .tapping 146000 5000).withPending [.modelInterval 1]) ∧
      ∃ t, step ((tapShop .started .tapping 146000 5000).withPending [.modelInterval 1]) = .next t :=
  ⟨plantSound_of_check (by decide), ⟨_, rfl⟩⟩
theorem witness_GrantSoundKept :
    GrantSound ((shop holdingF).withPending [.periodPass]) ∧
      ∃ t, step ((shop holdingF).withPending [.periodPass]) = .next t :=
  ⟨by constructor <;> decide, ⟨_, rfl⟩⟩
theorem witness_DerivedSoundKept :
    PlantSound ((shop holdingF).withPending [.periodPass]) ∧ DerivedSound ((shop holdingF).withPending [.periodPass]) ∧
      ∃ t, step ((shop holdingF).withPending [.periodPass]) = .next t :=
  ⟨plantSound_of_check (by decide), by constructor <;> decide, ⟨_, rfl⟩⟩
theorem witness_OnlyPeriodPassRaisesGrants :
    Instr.uptimeStep ≠ .periodPass ∧ ∃ t, exec .uptimeStep (shop holdingF) = .next t := ⟨by decide, ⟨_, rfl⟩⟩
/-- A protected furnace, one in neither group, a working one with its share of tier 2, and one with a starvation grant. -/
theorem witness_FiguresBounded :
    let s := shop { holdingF with bath := { holdingF.bath with estimate := some 142000 } }
    let w := shop superF
    let t := settled { w with budget := { w.budget with ceiling := 1000 } }
    let p := (w.furnace 1).power
    let starving := settled (t.setFurnace 1 { t.furnace 1 with power := { p with starvLeft := some 3 } })
    (1 : FurnaceId) ∈ s.groupOn .isProtected 0 ∧ s.group 2 = .nothing ∧ s.configured 0 = false ∧
      (1 : FurnaceId) ∈ t.groupOn .working 0 ∧
      (∀ u f, f ∈ t.groupOn .working u → (t.furnace f).power.starvLeft = none ∧
        850 * (t.furnace f).power.effClass.weight / 4 < (t.furnace f).power.need) ∧
      (1 : FurnaceId) ∈ starving.groupOn .working 0 ∧ (starving.furnace 1).power.starvLeft.isSome = true ∧
      ∀ v g, g ∈ starving.groupOn .working v → g = 1 := by decide
/-- A fall of B in RUNNING under a furnace with a grant. -/
theorem witness_FiguresBounded_lowered :
    let s := shop superF
    let t := after (.ceilingOverride (hdr 2) 1000) s
    s.part = .running ∧ t.part = .running ∧ t.budget.site < s.budget.site ∧
      ∀ p bytes, Instr.ceilingOverride (hdr 2) 1000 ≠ .badCrcFrame p bytes :=
  ⟨by decide, by decide, by decide, nofun⟩
theorem witness_OwnersChangeTheirState :
    (∃ t, exec (.modelInterval 1) (shop holdingF) = .next t) ∧ Instr.mayChangeTables (.modelInterval 1) = false ∧
      Instr.mayChangePart (.modelInterval 1) = false ∧ Instr.modelInterval 1 ≠ .powerOn ∧
      Instr.modelInterval 1 ≠ .uptimeStep ∧
      ∀ u b, Instr.modelInterval 1 ≠ .runningInputChange u b ∧ Instr.modelInterval 1 ≠ .faultInputChange u b :=
  ⟨⟨_, rfl⟩, rfl, rfl, nofun, nofun, fun _ _ => ⟨nofun, nofun⟩⟩

/-! ## Hypotheses met: the link unit -/

theorem witness_RequestRoundTrip :
    let i : Instr := .supplySetup (hdr 9) 1 0 (some ⟨0x11, 4000, 0, 0, 0, 1⟩)
    requestBytes i = some (hdr 9, .supplySetup, [1, 0, 0x11, 0x0F, 0xA0, 0, 0, 0, 1]) ∧ wellSized i = true := by decide
theorem witness_FrameLayout : ∃ body : List Byte, body.length = 198 ∧ body.length ≤ 198 :=
  ⟨List.replicate 198 0, List.length_replicate, Nat.le_of_eq List.length_replicate⟩
theorem witness_LinkChecks_unknown :
    Kind.ofCode 0 = none ∧ Kind.ofCode 0x09 = none ∧ Kind.ofCode 0xC0 = none ∧ Kind.ofCode 0xFF = none ∧
      ((portShop { PortUnit.fresh with replies := List.replicate 3 aReply }).port .sup).replies.length < 4 ∧
      4 ≤ ((portShop { PortUnit.fresh with replies := List.replicate 4 aReply }).port .sup).replies.length := by decide
theorem witness_LinkChecks_known :
    requestBytes (.dip (hdr 5) 1 1430 0) = some (hdr 5, .dip, [1, 0x05, 0x96, 0]) ∧
      layoutLength (.dip (hdr 5) 1 1430 0) ≠ some (hdr 5).len ∧
      requestBytes (.mask (deckHdr 1) 3) = some (deckHdr 1, .mask, [3]) ∧
      layoutLength (.mask (deckHdr 1) 3) = some (deckHdr 1).len ∧ Kind.mask.permitted .deck = false ∧
      ((shop emptyF).port .deck).replies.length < 4 := by decide
theorem witness_OneReplyEach :
    requestBytes (.commit (hdr 0)) = some (hdr 0, .commit, []) ∧
      ((portShop { PortUnit.fresh with replies := List.replicate 3 aReply }).port (hdr 0).port).replies.length < 4 :=
  ⟨rfl, by decide⟩
theorem witness_NoticeQueueing :
    ((portShop { PortUnit.fresh with notices := List.replicate 23 aNotice }).port .sup).notices.length < 24 ∧
      24 ≤ ((portShop { PortUnit.fresh with notices := List.replicate 24 aNotice }).port .sup).notices.length := by decide
theorem witness_Transmitter :
    let reply := portShop { PortUnit.fresh with replies := [aReply], notices := [aNotice] }
    let notice := portShop { PortUnit.fresh with notices := [aNotice] }
    (reply.port .sup).sending = none ∧ (reply.port .sup).framer = .hunt ∧ (reply.port .sup).replies = aReply :: [] ∧
      (notice.port .sup).sending = none ∧ (notice.port .sup).replies = [] ∧ (notice.port .sup).notices = aNotice :: [] ∧
      ((shop emptyF).port .sup).replies = [] ∧ ((shop emptyF).port .sup).notices = [] := by decide
theorem witness_Transmitter_busy :
    let reply := portShop { PortUnit.fresh with replies := [aReply], sending := some ⟨.reply, []⟩ }
    let notice := portShop { PortUnit.fresh with notices := [aNotice], sending := some ⟨.notice, []⟩ }
    (reply.port .sup).sending = some ⟨.reply, []⟩ ∧ (reply.port .sup).sending ≠ none ∧
      (notice.port .sup).sending = some ⟨.notice, []⟩ ∧
      ((portShop { PortUnit.fresh with framer := .length }).port .sup).framer ≠ .hunt := by decide
theorem witness_FramerEvents :
    ((portShop { PortUnit.fresh with framer := .length }).port .sup).framer = .length ∧
      lengthByteBad 0 = true ∧ lengthByteBad 1 = true ∧ lengthByteBad 201 = true ∧ lengthByteBad 255 = true ∧
      ((shop emptyF).port .sup).framer ≠ .length ∧ ((shop emptyF).port .sup).sending = none ∧
      ((portShop { PortUnit.fresh with framer := .length }).port .sup).sending = none ∧
      ((portShop { PortUnit.fresh with replies := [aReply], sending := some ⟨.reply, []⟩ }).port .sup).sending ≠ none ∧
      (0xA5 : Byte) ∉ ([2, 7, 7, 0, 0] : List Byte) ∧ (0xA5 : Byte) ∉ ([30, 0x27] : List Byte) ∧
      (0xA5 : Byte) ∉ ([1] : List Byte) ∧ ([1, 5, 0x96, 0] : List Byte).length ≤ 198 := by
  set_option maxRecDepth 4000 in decide

/-! ## Hypotheses met: setup -/

theorem witness_ConsistencyOrder_furnace :
    let t : Tables := { tables with furnace := tables.furnace.set 3 (some (cfgF 1)) }
    t.checkFurnace 3 = some .channelTaken ∧ ∀ g, g < 3 → t.checkFurnace g = none := by decide
theorem witness_ConsistencyOrder_grade :
    let t : Tables := { tables with grade := tables.grade.set 0 (some { cfgG with tap := 1701 }) }
    (∀ f, t.checkFurnace f = none) ∧ t.checkGrade 0 = some .gradeOrder ∧ ∀ k, k < 0 → t.checkGrade k = none := by decide
theorem witness_ConsistencyOrder_circuit :
    let t : Tables := { tables with circuit := tables.circuit.set 15 (some { cfgC with flowTrip := 150 }) }
    (∀ f, t.checkFurnace f = none) ∧ (∀ g, t.checkGrade g = none) ∧ t.checkCircuit 15 = some .flowOrder ∧
      ∀ k, k < 15 → t.checkCircuit k = none := by decide
/-- An entry of each table that passes, and one for each code; C15 fails both its last checks and the flow code comes. -/
theorem witness_ConsistencyOrder_codes :
    let t (k : CircuitCfg) : Tables := { tables with circuit := tables.circuit.set 15 (some k) }
    (tables.furnace[(1 : FurnaceId)] = some (cfgF 0) ∧ tables.supply[(0 : SupplyId)] ≠ none ∧ tables.furnace[(0 : FurnaceId)] = none) ∧
      ({ tables with supply := tables.supply.set 0 none } : Tables).checkFurnace 1 = some .noSupply ∧
      tables.grade[(3 : GradeId)] = some cfgG ∧ tables.grade[(0 : GradeId)] = none ∧ tables.circuit[(0 : CircuitId)] = none ∧
      (t { cfgC with loop := 2, target := .furnace 5 }).checkCircuit 15 = some .noLoop ∧
      (t { cfgC with target := .furnace 5, flowTrip := 150 }).checkCircuit 15 = some .noTarget ∧
      (t { cfgC with flowTrip := 150, tempTrip := 45 }).checkCircuit 15 = some .flowOrder ∧
      (t { cfgC with tempTrip := 45 }).checkCircuit 15 = some .tempOrder ∧ (t cfgC).checkCircuit 15 = none := by decide
theorem witness_Commit :
    idleShop.admits (hdr 0) .commit 0 ∧ idleShop.part = .configuring ∧ idleShop.tables.Consistent :=
  ⟨admitsSup _ _ _ (by decide), rfl, consistent_tables⟩
theorem witness_Commit_refused :
    let s : State := { State.reset with tables := { tables with loop := Tables.reset.loop } }
    s.admits (hdr 0) .commit 0 ∧ (s.part = .configuring ∧ s.tables.firstFailure = some (.circuit, 3, .noLoop)) ∧
      (shop emptyF).admits (hdr 0) .commit 0 ∧ (shop emptyF).part = .running :=
  ⟨admitsSup _ _ _ (by decide), by decide, admitsSup _ _ _ (by decide), by decide⟩
theorem witness_Restart : (shop holdingF).admits (hdr 0) .restart 0 := admitsSup _ _ _ (by decide)
/-- The masked C3 stands in TRIP over F1, which is not trip-held: a RESTART raises it and writes F1's fault sense record. -/
theorem witness_Restart_raises :
    let s := circuitShop emptyF { Circuit.fresh with condition := .trip, masked := true }
    s.admits (hdr 0) .restart 0 ∧ (s.circuit 3).masked = true ∧ (s.circuit 3).condition.bad = true ∧
      (s.circuit 3).request = .none ∧ s.loopFree 3 = true ∧ (1 : FurnaceId) ∈ (s.affectedBy 3).filter (fun f => !s.isHeld f) ∧
      (∀ d : CircuitId, 3 < d → (s.circuit d).masked = false) ∧ (2 : FurnaceId) ∉ s.affectedBy 3 :=
  ⟨admitsSup _ _ _ (by decide), by decide⟩
theorem witness_SiteParameters :
    let e := State.reset.site
    10 ≤ (10 : Byte).toNat ∧ e.write (0, 249) = none ∧ e.write (0, 250) = some { e with scanPeriod := 250 } ∧
      ([((0 : Byte), (250 : Half)), (9, 1)].map (·.1)).Nodup ∧ e.writeAll [(9, 1), (0, 249)] = none := by decide
/-- A body of each other table that is read. -/
theorem witness_SiteParameters_fields :
    SupplyBody.read ⟨0x11, 500, 0, 0, 0, 1⟩ = some ⟨500, 80, 60, 3, true⟩ ∧
      FurnaceBody.read ⟨8000, 3500, 75, 80, 20, 1500, 30, 0, 0⟩ = some (cfgF 0) ∧
      GradeBody.read ⟨1150, 1420, 1460, 20, 15, 840, 390, 60, 15⟩ = some cfgG ∧
      LoopBody.read ⟨250, 30, 120, 150, 40, 1⟩ = some cfgL ∧
      CircuitBody.read ⟨1, 0, 1, 150, 100, 20, 45, 55, 3, 0, 60⟩ = some cfgC ∧
      CircuitBody.read ⟨1, 2, 1, 150, 100, 20, 45, 55, 3, 0, 60⟩ = none := by decide
theorem witness_SiteSetup :
    let ps : List (Byte × Half) := [(5, 7000), (6, 300)]
    (shop holdingF).admits (hdr 8) .siteSetup (2 + 3 * (2 : Byte).toNat) ∧
      (1 ≤ (2 : Byte).toNat ∧ (2 : Byte).toNat ≤ 10 ∧ ps.length = (2 : Byte).toNat ∧ (ps.map (·.1)).Nodup) ∧
      ∃ e, (shop holdingF).site.writeAll ps = some e :=
  ⟨admitsSup _ _ _ (by decide), by decide, ⟨_, rfl⟩⟩
theorem witness_SiteSetup_ten :
    let ps : List (Byte × Half) :=
      [(0, 250), (1, 0), (2, 50), (3, 10), (4, 120), (5, 30000), (6, 2000), (7, 5), (8, 1800), (9, 1)]
    (ps.length = (10 : Byte).toNat ∧ (ps.map (·.1)).Nodup) ∧ ∃ e, (shop holdingF).site.writeAll ps = some e :=
  ⟨by decide, ⟨_, rfl⟩⟩
def supplyFields : SupplyBody := ⟨0x1F, 4000, 80, 60, 3, 0⟩
def furnaceFields : FurnaceBody := ⟨8000, 3500, 75, 80, 20, 1500, 30, 0, 0⟩
def gradeFields : GradeBody := ⟨1150, 1420, 1460, 20, 15, 840, 390, 60, 15⟩
def loopFields : LoopBody := ⟨250, 30, 120, 150, 40, 1⟩
def circuitFields : CircuitBody := ⟨1, 0, 1, 150, 100, 20, 45, 55, 3, 0, 60⟩
/-- The entries of the shop, defined again in RUNNING: idle, and the tables stay consistent. -/
theorem witness_SupplySetup :
    let a : Action SupplyCfg := .define cfgS
    (shop emptyF).admits (hdr 9) .supplySetup (if (0 : Byte) = 0 then 9 else 2) ∧
      setupAction 2 0 0 (some supplyFields) SupplyBody.read = some (0, a) ∧
      PlantSound (shop emptyF) ∧ DerivedSound (shop emptyF) ∧
      ((shop emptyF).supplyCfg 0).isSome = true ∧ a.entry.isSome = true ∧ (shop emptyF).supplyIdle 0 = true ∧
      ({ (shop emptyF).tables with supply := (shop emptyF).tables.supply.set 0 a.entry } : Tables).Consistent :=
  ⟨admitsSup _ _ _ (by decide), rfl, plant_empty, by constructor <;> decide, by decide, rfl, by decide,
    (by decide : ({ tables with supply := tables.supply.set 0 (some cfgS) } : Tables) = tables) ▸ consistent_tables⟩
theorem witness_SupplySetup_remove :
    idleShop.admits (hdr 2) .supplySetup (if (1 : Byte) = 0 then 9 else 2) ∧
      setupAction 2 1 1 none SupplyBody.read = some (1, .remove) ∧ idleShop.part = .configuring ∧
      PlantSound idleShop ∧ DerivedSound idleShop :=
  ⟨admitsSup _ _ _ (by decide), rfl, rfl, plantSound_of_check (by decide), by constructor <;> decide⟩
/-- In CONFIGURING, over UNDECLARED furnaces: S1 first defined with C3 masked and unmasked, and S0 removed from under a masked
C3 that targets it and then affects no furnace. -/
theorem witness_SupplySetup_target :
    let s (x : Target) (m : Bool) : State :=
      settled
        { idleShop with
          tables := { tables with circuit := tables.circuit.set 3 (some { cfgC with target := x }) }
          circuits := State.reset.circuits.set 3 { Circuit.fresh with masked := m } }
    let removed (x : State) : State := { x with tables := { x.tables with supply := x.tables.supply.set 0 none } }
    (∀ m, PlantSound (s (.furnace 1) m) ∧ DerivedSound (s (.furnace 1) m)) ∧ PlantSound (s (.supply 0) true) ∧
      DerivedSound (s (.supply 0) true) ∧
      ((s (.furnace 1) true).supplyCfg 1 = none ∧ ((s (.furnace 1) true).furnace 1).phase ≠ .empty ∧
        (s (.furnace 1) true).affects 3 1 = true) ∧
      (∀ c : CircuitId, ((s (.furnace 1) false).circuit c).masked = false) ∧ (s (.supply 0) true).affects 3 1 = true ∧
      ∀ f, (removed (s (.supply 0) true)).affects 3 f = false :=
  ⟨fun m => by cases m <;> exact ⟨plantSound_of_check (by decide), by constructor <;> decide⟩,
    plantSound_of_check (by decide), by constructor <;> decide, by decide⟩
theorem witness_GradeSetup :
    let a : Action GradeCfg := .define cfgG
    (shop emptyF).admits (hdr 16) .gradeSetup (if (0 : Byte) = 0 then 16 else 2) ∧
      setupAction 16 3 0 (some gradeFields) GradeBody.read = some (3, a) ∧
      (shop emptyF).gradeIdle 3 a.entry.isNone = true ∧
      ({ (shop emptyF).tables with grade := (shop emptyF).tables.grade.set 3 a.entry } : Tables).Consistent :=
  ⟨admitsSup _ _ _ (by decide), rfl, by decide,
    (by decide : ({ tables with grade := tables.grade.set 3 (some cfgG) } : Tables) = tables) ▸ consistent_tables⟩
theorem witness_FurnaceSetup :
    let a : Action FurnaceCfg := .define (cfgF 0)
    PlantSound (shop emptyF) ∧ (shop emptyF).held = (shop emptyF).heldNow ∧
      (shop emptyF).admits (hdr 15) .furnaceSetup (if (0 : Byte) = 0 then 15 else 2) ∧
      setupAction 6 1 0 (some furnaceFields) FurnaceBody.read = some (1, a) ∧
      (shop emptyF).furnaceIdle 1 a.entry.isNone = true ∧
      ({ (shop emptyF).tables with furnace := (shop emptyF).tables.furnace.set 1 a.entry } : Tables).Consistent :=
  ⟨plant_empty, by decide, admitsSup _ _ _ (by decide), rfl, by decide,
    (by decide : ({ tables with furnace := tables.furnace.set 1 (some (cfgF 0)) } : Tables) = tables) ▸
      consistent_tables⟩
/-- A redefined EMPTY furnace under the masked C3: no circuit is unmasked. -/
theorem witness_FurnaceSetup_masked :
    let s := circuitShop emptyF { Circuit.fresh with masked := true }
    let stored : State :=
      { s with tables := { s.tables with furnace := s.tables.furnace.set 1 (some (cfgF 0)) }
               furnaces := s.furnaces.set 1 (s.furnace 1) }
    PlantSound s ∧ s.held = s.heldNow ∧ s.furnaceIdle 1 false = true ∧ (s.circuit 3).masked = true ∧
      stored.affects 3 1 = true ∧
      ∀ c g, (s.circuit c).masked = true → stored.affects c g = true → (stored.furnace g).phase = .empty :=
  ⟨plantSound_of_check (by decide), by decide⟩
/-- An UNDECLARED furnace of CONFIGURING removed. -/
theorem witness_FurnaceSetup_remove :
    PlantSound idleShop ∧ idleShop.held = idleShop.heldNow ∧
      idleShop.admits (hdr 2) .furnaceSetup (if (1 : Byte) = 0 then 15 else 2) ∧
      setupAction 6 1 1 none FurnaceBody.read = some (1, .remove) ∧ idleShop.part = .configuring :=
  ⟨plantSound_of_check (by decide), by decide, admitsSup _ _ _ (by decide), rfl, rfl⟩
/-- A PRIMARY loop redefined, and one in EMERGENCY removed, with no metal over it. -/
theorem witness_LoopSetup :
    let a : Action LoopCfg := .define cfgL
    PlantSound (shop emptyF) ∧ (shop emptyF).held = (shop emptyF).heldNow ∧
      (shop emptyF).admits (hdr 11) .loopSetup (if (0 : Byte) = 0 then 11 else 2) ∧
      setupAction 4 1 0 (some loopFields) LoopBody.read = some (1, a) ∧ (a.entry.isNone = true → False) ∧
      (∀ f, (shop emptyF).loopAffects 1 f = true → ((shop emptyF).furnace f).phase = .empty) ∧
      ({ (shop emptyF).tables with loop := (shop emptyF).tables.loop.set 1 a.entry } : Tables).Consistent :=
  ⟨plant_empty, by decide, admitsSup _ _ _ (by decide), rfl, by decide, by decide,
    (by decide : ({ tables with loop := tables.loop.set 1 (some cfgL) } : Tables) = tables) ▸ consistent_tables⟩
theorem witness_LoopSetup_remove :
    let s : State := settled
      { loopShop Furnace.fresh ({ Loop.fresh with state := .emergency } : Loop) .emergency with part := .configuring }
    PlantSound s ∧ s.held = s.heldNow ∧ s.admits (hdr 2) .loopSetup (if (1 : Byte) = 0 then 11 else 2) ∧
      setupAction 4 1 1 none LoopBody.read = some (1, .remove) ∧ (s.loop 1).request = .none ∧ s.part = .configuring :=
  ⟨plantSound_of_check (by decide), by decide, admitsSup _ _ _ (by decide), rfl, by decide⟩
/-- A circuit redefined over an EMPTY furnace: in TRIP without a request (it raises), PENDING and no longer bad, and PENDING
behind its loop's request. -/
theorem witness_CircuitSetup :
    let s := circuitShop emptyF { Circuit.fresh with condition := .trip }
    let a : Action CircuitCfg := .define cfgC
    PlantSound s ∧ s.held = s.heldNow ∧ s.admits (hdr 15) .circuitSetup (if (0 : Byte) = 0 then 15 else 2) ∧
      setupAction 16 3 0 (some circuitFields) CircuitBody.read = some (3, a) ∧
      (∀ f, s.affects 3 f = true → (s.furnace f).phase = .empty) ∧
      ({ s.tables with circuit := s.tables.circuit.set 3 a.entry } : Tables).Consistent :=
  ⟨plantSound_of_check (by decide), by decide, admitsSup _ _ _ (by decide), rfl, by decide,
    (by decide : ({ tables with circuit := tables.circuit.set 3 (some cfgC) } : Tables) = tables) ▸ consistent_tables⟩
theorem witness_CircuitSetup_pending :
    let s := circuitShop emptyF { Circuit.fresh with request := .pending }
    PlantSound s ∧ s.held = s.heldNow ∧ (s.circuit 3).request = .pending ∧ (s.circuit 3).condition.bad = false ∧
      s.loopFree 3 = true ∧
      (s.setLoop 1 { Loop.fresh with request := .pending }).loopFree 3 = false :=
  ⟨plantSound_of_check (by decide), by decide⟩
theorem witness_CircuitSetup_remove :
    idleShop.admits (hdr 2) .circuitSetup (if (1 : Byte) = 0 then 15 else 2) ∧
      setupAction 16 3 1 none CircuitBody.read = some (3, .remove) ∧ (idleShop.circuit 3).request = .none ∧
      idleShop.part = .configuring :=
  ⟨admitsSup _ _ _ (by decide), rfl, by decide⟩
/-- In CONFIGURING the masked C3 stands in TRIP over F1, which is UNDECLARED: a request that defines F1 or C3 again, or S1 anew,
unmasks it, and it raises over F1. -/
theorem witness_SetupUnmasks :
    let s := settled { idleShop with circuits := State.reset.circuits.set 3 { Circuit.fresh with condition := .trip, masked := true } }
    let t : State :=
      { s with tables := { s.tables with supply := s.tables.supply.set 1 (some cfgS) }
               supplies := s.supplies.set 1 Supply.fresh }
    PlantSound s ∧ DerivedSound s ∧ s.part = .configuring ∧
      (s.unmaskRaises 3 = true ∧ s.affects 3 1 = true ∧ (1 : FurnaceId) ∉ s.held ∧
        (∀ d : CircuitId, 3 < d → s.unmaskRaises d = false) ∧ s.queue = []) ∧
      (t.unmaskRaises 3 = true ∧ t.affects 3 1 = true ∧ (1 : FurnaceId) ∉ t.held) :=
  ⟨plantSound_of_check (by decide), by constructor <;> decide, by decide⟩
theorem witness_RefusedRequests_site :
    let s := shop emptyF
    s.admits (hdr 2) .siteSetup (2 + 3 * (0 : Byte).toNat) ∧ (0 : Byte).toNat = 0 ∧
      s.admits (hdr 35) .siteSetup (2 + 3 * (11 : Byte).toNat) ∧ 10 < (11 : Byte).toNat ∧
      ¬(([(4, 5), (4, 5)] : List (Byte × Half)).map (·.1)).Nodup ∧ s.site.writeAll [(4, 4)] = none :=
  ⟨admitsSup _ _ _ (by decide), by decide, admitsSup _ _ _ (by decide), by decide⟩
theorem witness_RefusedRequests_fields :
    setupAction 2 2 1 none SupplyBody.read = none ∧ setupAction 6 1 2 none FurnaceBody.read = none ∧
      setupAction 16 3 0 (some { gradeFields with bandLow := 4 }) GradeBody.read = none ∧
      setupAction 4 1 0 (some { loopFields with lostValve := 2 }) LoopBody.read = none ∧
      setupAction 16 3 0 (some { circuitFields with targetIndex := 6 }) CircuitBody.read = none :=
  ⟨rfl, rfl, rfl, rfl, rfl⟩
/-- A holding furnace is not idle, nor its loop and circuit; a LOST loop's request stands over its removal. -/
theorem witness_RefusedRequests_state :
    let s := shop holdingF
    s.part = .running ∧ s.furnaceIdle 1 false = false ∧ s.gradeIdle 3 false = false ∧
      (supplyShop ⟨.starting, 0, 100, some ⟨.start, 3⟩, false⟩ ⟨false, false⟩).supplyIdle 0 = false ∧
      (s.loopAffects 1 1 = true ∧ (s.furnace 1).phase ≠ .empty ∧ s.affects 3 1 = true) ∧
      ((loopShop emptyF { Loop.fresh with state := .lost, request := .pending } .emergency).loop 1).request ≠ .none ∧
      ((circuitShop emptyF { Circuit.fresh with condition := .trip, request := .inService }).circuit 3).request ≠ .none := by
  decide
theorem witness_RefusedRequests_tables :
    let s := shop emptyF
    ({ s.tables with supply := s.tables.supply.set 0 none } : Tables).firstFailure = some (.furnace, 1, .noSupply) ∧
      ({ s.tables with furnace := s.tables.furnace.set 1 none } : Tables).firstFailure = some (.circuit, 3, .noTarget) ∧
      ({ s.tables with loop := s.tables.loop.set 1 none } : Tables).firstFailure = some (.circuit, 3, .noLoop) ∧
      ({ s.tables with grade := s.tables.grade.set 3 (some { cfgG with hold := 1150 }) } : Tables).firstFailure =
        some (.grade, 3, .gradeOrder) ∧
      ({ s.tables with circuit := s.tables.circuit.set 3 (some { cfgC with tempTrip := 45 }) } : Tables).firstFailure =
        some (.circuit, 3, .tempOrder) := by decide
theorem witness_RefusedRequests_configuring :
    requestBytes (.openHeat (hdr 6) 1 7 3 5000) = some (hdr 6, .openHeat, [1, 0, 7, 3, 0x13, 0x88]) ∧
      Kind.openHeat.runningOnly = true ∧ idleShop.part = .configuring ∧ (idleShop.port .sup).replies.length < 4 ∧
      layoutLength (.openHeat (hdr 6) 1 7 3 5000) = some (hdr 6).len ∧ Kind.openHeat.permitted .sup = true := by decide
theorem witness_Reports :
    let s := shop holdingF
    s.admits (hdr 0) .partStatus 0 ∧ s.admits (hdr 2) .tableReport 2 ∧ s.admits (hdr 1) .sense 1 ∧
      s.admits (hdr 1) .furnaceReport 1 ∧ s.admits (hdr 1) .powerReport 1 ∧ s.admits (hdr 1) .coolingReport 1 ∧
      s.admits (hdr 1) .tapQueueReport 1 ∧ finOf 6 5 = some 5 ∧ finOf 2 1 = some 1 ∧ finOf 16 15 = some 15 ∧
      finOf 4 3 = some 3 ∧ (finOf 6 1 = some 1 ∧ s.furnaceCfg 1 = some (cfgF 0)) ∧ (3 : Byte).toNat ≤ 3 ∧
      (6 ≤ (6 : Byte).toNat ∧ 2 ≤ (2 : Byte).toNat ∧ 16 ≤ (16 : Byte).toNat ∧ 4 ≤ (4 : Byte).toNat ∧ 3 ≤ (3 : Byte).toNat) ∧
      (finOf 6 0 = some 0 ∧ s.furnaceCfg 0 = none ∧ s.supplyCfg 1 = none ∧ (s.supply 0).state = .idle ∧
        ((supplyShop ⟨.running, 1, 100, some ⟨.stableRun, 60⟩, false⟩ ⟨true, false⟩).supply 0).state = .running ∧
        (s.supplyCfg 0).isSome = true) ∧
      (∀ g : FurnaceId, g ≠ 1 → (s.furnaceCfg g).all (fun d => !(d.supply == 0 && d.channel == 0)) = true) ∧
      ∀ g : FurnaceId, (s.furnaceCfg g).all (fun d => !(d.supply == 0 && d.channel == 2)) = true := by
  refine ⟨?_, ?_, ?_, ?_, ?_, ?_, ?_, by decide⟩ <;> exact admitsSup _ _ _ (by decide)

/-! ## Hypotheses met: heats -/

/-- What the statements about a heat request ask first, of F1 in the shop with this record. -/
structure Asked (r : Furnace) (k : Kind) (n : Nat) : Prop where
  plant : PlantSound (shop r)
  admits : (shop r).admits (hdr n) k n
  running : (shop r).part = .running
  index : finOf 6 1 = some 1
  entry : (shop r).furnaceCfg 1 = some (cfgF 0)
  configured : (shop r).configured 1 = true

theorem asked {r : Furnace} (k : Kind) (n : Nat) (h : PlantSound (shop r)) : Asked r k n :=
  ⟨h, admitsSup _ _ _ rfl, rfl, rfl, rfl, rfl⟩

theorem plant_reline : PlantSound (shop relineF) := plantSound_of_check (by decide)
theorem plant_undeclared : PlantSound (shop Furnace.fresh) := plantSound_of_check (by decide)
theorem plant_melting : PlantSound (shop meltingF) := plantSound_of_check (by decide)

/-- Each step of R24 for the heat requests: a field out of range, an unconfigured furnace and grade, a service state or phase
that does not take the request, and another heat number. -/
theorem witness_refusesHeat :
    let s := shop holdingF
    let e := shop emptyF
    let inRange (heat : Half) (gb : Byte) (mass : Half) : Bool :=
      decide (1 ≤ heat.toNat ∧ gb.toNat < 16 ∧ 1 ≤ mass.toNat ∧ mass.toNat ≤ 20000)
    (∀ k n, s.admits (hdr n) k n ∧ e.admits (hdr n) k n) ∧ s.part = .running ∧ e.part = .running ∧
      (6 ≤ (6 : Byte).toNat ∧ inRange 0 3 1 = false ∧ inRange 1 16 1 = false ∧ inRange 1 3 20001 = false ∧
        (1751 : Half).toNat > 1750 ∧ (2001 : Half).toNat > 2000 ∧ (2 : Byte).toNat > 1) ∧
      (finOf 6 0 = some 0 ∧ s.configured 0 = false ∧ finOf 6 1 = some 1 ∧ s.configured 1 = true) ∧
      (finOf 16 5 = some 5 ∧ s.gradeCfg 5 = none ∧ inRange 1 5 1 = true) ∧
      ((s.furnace 1).service = .inService ∧ (s.furnace 1).phase = .holding) ∧
      (¬(e.furnace 1).worked ∧ ¬(e.furnace 1).heats ∧ (s.furnace 1).heats ∧
        (s.furnace 1).heatNo ≠ some (8 : Half).toNat) := by
  refine ⟨fun k n => ⟨admitsSup _ _ _ rfl, admitsSup _ _ _ rfl⟩, by decide, by decide, by decide, by decide, by decide,
    by decide, ?_⟩
  unfold Furnace.worked Furnace.heats
  decide

theorem witness_ServiceStates :
    Asked emptyF .serviceOut 1 ∧ Asked relineF .serviceIn 1 ∧ Asked Furnace.fresh .declareEmpty 1 ∧
      (((shop emptyF).furnace 1).service = .inService ∧ ((shop emptyF).furnace 1).phase = .empty ∧
      ((shop relineF).furnace 1).service = .reline ∧
      (∀ c, ((shop relineF).circuit c).masked = true → (shop relineF).affects c 1 = false) ∧
      ((shop Furnace.fresh).furnace 1).phase = .undeclared) :=
  ⟨asked _ _ plant_empty, asked _ _ plant_reline, asked _ _ plant_undeclared, by decide⟩

theorem witness_ServiceStates_masked :
    let s := circuitShop relineF { Circuit.fresh with masked := true }
    PlantSound s ∧ (s.furnace 1).service = .reline ∧ (s.circuit 3).masked = true ∧ s.affects 3 1 = true :=
  ⟨plantSound_of_check (by decide), by decide⟩
/-- At the capacity, 8000 kg, and one above it. -/
theorem witness_OpenHeat :
    let s := shop emptyF
    Asked emptyF .openHeat 6 ∧
      (finOf 16 3 = some 3 ∧ s.gradeCfg 3 = some cfgG ∧ 1 ≤ (1 : Half).toNat ∧ 1 ≤ (8000 : Half).toNat ∧
      (8001 : Half).toNat ≤ 20000 ∧ (s.furnace 1).service = .inService ∧ (s.furnace 1).phase = .empty ∧
      (∀ m, (s.circuit m).masked = true → s.affects m 1 = false) ∧ (8000 : Half).toNat ≤ (cfgF 0).capacity ∧
      (cfgF 0).capacity < (8001 : Half).toNat) :=
  ⟨asked _ _ plant_empty, by decide⟩

theorem witness_OpenHeat_masked :
    let s := circuitShop emptyF { Circuit.fresh with masked := true }
    PlantSound s ∧ s.admits (hdr 6) .openHeat 6 ∧ (s.circuit 3).masked = true ∧ s.affects 3 1 = true ∧
      (s.furnace 1).service = .inService ∧ (s.furnace 1).phase = .empty :=
  ⟨plantSound_of_check (by decide), admitsSup _ _ _ (by decide), by decide⟩
/-- A dip at the liquidus and at the hold temperature; one degree below the liquidus. -/
theorem witness_DeclareLiquid :
    let s := shop Furnace.fresh
    Asked Furnace.fresh .declareLiquid 8 ∧
      (s.gradeCfg 3 = some cfgG ∧ 1000 ≤ (1149 : Half).toNat ∧ (1420 : Half).toNat ≤ 1750 ∧
      (s.furnace 1).phase = .undeclared ∧ (∀ m, (s.circuit m).masked = true → s.affects m 1 = false) ∧
      (8000 : Half).toNat ≤ (cfgF 0).capacity ∧ cfgG.liquidus ≤ (1150 : Half).toNat ∧
      (1149 : Half).toNat < cfgG.liquidus ∧ cfgG.hold ≤ (1420 : Half).toNat) :=
  ⟨asked _ _ plant_undeclared, by decide⟩

theorem witness_DeclareLiquid_masked :
    let s := circuitShop Furnace.fresh { Circuit.fresh with masked := true }
    PlantSound s ∧ s.admits (hdr 8) .declareLiquid 8 ∧ (s.furnace 1).phase = .undeclared ∧
      (s.circuit 3).masked = true ∧ s.affects 3 1 = true :=
  ⟨plantSound_of_check (by decide), admitsSup _ _ _ (by decide), by decide⟩
theorem witness_CloseHeat :
    Asked holdingF .closeHeat 3 ∧
      (((shop holdingF).furnace 1).phase = .holding ∧ ((shop holdingF).furnace 1).heatNo = some (7 : Half).toNat ∧
      ((shop holdingF).furnace 1).heatNo ≠ some (8 : Half).toNat) :=
  ⟨asked _ _ plant_holding, by decide⟩

/-- Without room; in MELTING; with a credit below the need of 2000 kg and above that of 200 kg. -/
theorem witness_Charge :
    let s := shop holdingF
    let credit : Int := 5000 * 840 * 280 + 0
    Asked holdingF .charge 3 ∧ Asked meltingF .charge 3 ∧
      ((s.furnace 1).grade = some 3 ∧ s.gradeCfg 3 = some cfgG ∧ 1 ≤ (1 : Half).toNat ∧ (20000 : Half).toNat ≤ 20000 ∧
      (s.furnace 1).phase = .holding ∧ (s.furnace 1).mass < (cfgF 0).capacity ∧
      (s.furnace 1).bath.estimate = some 143000 ∧ credit < 2000 * 390 * 3600 ∧ 200 * 390 * 3600 ≤ credit ∧
      (cfgF 0).capacity ≤ ((shop { holdingF with mass := 8000 }).furnace 1).mass ∧
      (((shop meltingF).furnace 1).mass < (cfgF 0).capacity ∧ ((shop meltingF).furnace 1).phase = .melting)) :=
  ⟨asked _ _ plant_holding, asked _ _ plant_melting, by decide⟩

theorem witness_MassReport :
    let s := shop meltingF
    Asked meltingF .massReport 3 ∧
      ((s.furnace 1).grade = some 3 ∧ s.gradeCfg 3 = some cfgG ∧ (s.furnace 1).phase = .melting ∧ (1 : Half) ≠ 0) :=
  ⟨asked _ _ plant_melting, by decide⟩

theorem witness_Chemistry :
    let s := shop holdingF
    Asked holdingF .chemApprove 3 ∧ Asked holdingF .chemRevoke 3 ∧
      ((s.furnace 1).grade = some 3 ∧ s.gradeCfg 3 = some cfgG ∧ (s.furnace 1).phase.hasHeat = true ∧
      (s.furnace 1).heatNo = some (7 : Half).toNat ∧ (s.furnace 1).overheld = false ∧ (s.furnace 1).approved = true ∧
      ((shop superF).furnace 1).overheld = false ∧
      ((shop { superF with approved := false }).furnace 1).approved = false) :=
  ⟨asked _ _ plant_holding, asked _ _ plant_holding, by decide⟩

theorem witness_Chemistry_overheld :
    let s (n : Nat) := shop { holdingF with overheld := true, approved := false, allowance := some 0, extensions := n }
    PlantSound (s 1) ∧ PlantSound (s 2) ∧ ((s 1).furnace 1).overheld = true ∧ ((s 1).furnace 1).extensions < 2 ∧
      ((s 2).furnace 1).overheld = true ∧ 2 ≤ ((s 2).furnace 1).extensions :=
  ⟨plantSound_of_check (by decide), plantSound_of_check (by decide), by decide⟩

/-! ## Hypotheses met: the bath -/

/-- In MELTING: one degree below the liquidus, at it, at 1750 and one above. -/
theorem witness_DipGates_melting :
    let s := shop meltingF
    Asked meltingF .dip 4 ∧
      ((s.furnace 1).phase = .melting ∧ (s.furnace 1).grade = some 3 ∧ s.gradeCfg 3 = some cfgG ∧ yesNo 0 = some false ∧
      (2000 : Half).toNat ≤ 2000 ∧ (1149 : Half).toNat < cfgG.liquidus ∧ cfgG.liquidus ≤ (1150 : Half).toNat ∧
      (1750 : Half).toNat ≤ 1750 ∧ 1750 < (1751 : Half).toNat) :=
  ⟨asked _ _ plant_melting, by decide⟩

/-- In HOLDING at 1430 °C with tolerance 20: the last accepted reading, 1450, and the first held one, 1451; the bounds of
plausible readings; and TEMP_UNKNOWN. -/
theorem witness_DipGates_liquid :
    let s := shop holdingF
    Asked holdingF .dip 4 ∧
      ((s.furnace 1).phase.liquid = true ∧ (s.furnace 1).bath.estimate = some 143000 ∧
      (s.furnace 1).bath.pendingDip = none ∧ (s.furnace 1).bath.disagreements < 2 ∧
      (s.furnace 1).tempUnknown = false ∧ yesNo 1 = some true ∧
      apart (1450 * 100) 143000 ≤ s.site.dipTolerance * 100 ∧ ¬apart (1451 * 100) 143000 ≤ s.site.dipTolerance * 100 ∧
      ((999 : Half).toNat < 1000 ∧ 1000 ≤ (1000 : Half).toNat ∧ (1750 : Half).toNat ≤ 1750 ∧ 1750 < (1751 : Half).toNat) ∧
      ((shop { holdingF with tempUnknown := true }).furnace 1).tempUnknown = true) :=
  ⟨asked _ _ plant_holding, by decide⟩

/-- With a dip of 1500 pending: 1520 confirms it, 1521 replaces it; and the counts 2 and 3. -/
theorem witness_DipGates_pending :
    let r (n : Nat) : Furnace := { holdingF with bath := { holdingF.bath with pendingDip := some ⟨1500, 0⟩, disagreements := n } }
    PlantSound (shop (r 2)) ∧ PlantSound (shop (r 3)) ∧ ((shop (r 2)).furnace 1).bath.pendingDip = some ⟨1500, 0⟩ ∧
      apart 1520 1500 ≤ (shop (r 2)).site.dipTolerance ∧ ¬apart 1521 1500 ≤ (shop (r 2)).site.dipTolerance ∧
      ((shop (r 2)).furnace 1).bath.disagreements = 2 ∧ 2 < ((shop (r 3)).furnace 1).bath.disagreements :=
  ⟨plantSound_of_check (by decide), plantSound_of_check (by decide), by decide⟩
theorem witness_ModelInterval :
    ({ shop holdingF with modelTimers := Vector.replicate 6 none } : State).modelTimers[(1 : FurnaceId)] = none ∧
      (shop emptyF).modelTimers[(1 : FurnaceId)].isSome = true ∧ ((shop emptyF).furnace 1).phase.hasHeat = false ∧
      (shop holdingF).furnaceCfg 1 = some (cfgF 0) ∧ ((shop holdingF).furnace 1).phase.liquid = true ∧
      ((shop holdingF).furnace 1).bath.estimate = some 143000 := by decide
/-- Without power: below the required energy, and at it after a cut. -/
theorem witness_ModelInterval_melting :
    let s := shop meltingF
    let t := shop { meltingF with bath := { meltingF.bath with progress := some 7020000000 } }
    PlantSound t ∧ (s.furnace 1).phase = .melting ∧ (s.furnace 1).bath.required = some 7020000000 ∧
      (s.furnace 1).bath.progress = some 0 ∧ ((0 : Int) + (0 - 80 * (1150 - 25)) < 7020000000 ∧ 0 < 7020000000) ∧
      (t.furnace 1).bath.progress = some 7020000000 ∧ (t.furnace 1).allowance = none :=
  ⟨plantSound_of_check (by decide), by decide⟩

/-- The melt ends with an allowance present, in its last second. -/
theorem witness_ModelInterval_meltAllowance :
    let t := shop { meltingF with allowance := some 1, bath := { meltingF.bath with progress := some 7020000000 } }
    PlantSound t ∧ (t.furnace 1).phase = .melting ∧ (t.furnace 1).allowance = some 1 :=
  ⟨plantSound_of_check (by decide), by decide⟩
/-- SUPERHEAT at its setpoint after the step, the allowance in its last second and absent; HOLDING assigned and below its tap
band; HOLDING with the allowance in its last second. -/
theorem witness_ModelInterval_changes :
    let hot (a : Option Nat) := shop { superF with allowance := a, bath := { superF.bath with estimate := some 143000 } }
    let cool := tapShop .assigned .holding 144000 5000
    let old := shop { holdingF with allowance := some 1 }
    (PlantSound (hot none) ∧ PlantSound (hot (some 1)) ∧ PlantSound cool ∧ PlantSound old) ∧
      ((after (.modelInterval 1) (hot none)).furnace 1).phase = .holding ∧
      ((after (.modelInterval 1) (hot (some 1))).furnace 1).overheld = true ∧
      ((after (.modelInterval 1) cool).furnace 1).phase = .superheat ∧
      ((after (.modelInterval 1) old).furnace 1).overheld = true :=
  ⟨⟨plantSound_of_check (by decide), plantSound_of_check (by decide), plantSound_of_check (by decide),
    plantSound_of_check (by decide)⟩, by decide⟩

/-! ## Hypotheses met: budget and power -/

def slotted (minute second : Nat) : State :=
  { shop holdingF with
    budget := { (shop holdingF).budget with
      clock := some ⟨6, minute, second⟩
      slots := Budget.reset.slots.set 11 ⟨true, 1, 0, 3000⟩ } }
/-- Seconds 58 and 59; a minute boundary at which a slot begins (Sunday 23:59:59 to weekday 0, minute 0) and one at which
none does. -/
theorem witness_UptimeStep :
    (shop holdingF).budget.clock = none ∧ (slotted 10 58).budget.clock = some ⟨6, 10, 58⟩ ∧ 58 < 59 ∧
      ((slotted 1439 59).budget.slots[(11 : Fin 12)]).enabled = true ∧
      ((slotted 1439 59).budget.slots[(11 : Fin 12)]).start = 0 ∧
      ((slotted 1439 59).budget.slots[(11 : Fin 12)]).days.getLsbD 0 = true ∧
      (∀ m : Fin 12, m < 11 → ((slotted 1439 59).budget.slots[m]).enabled = false) ∧
      ∀ n : Fin 12, ((slotted 10 59).budget.slots[n]).enabled = true → ((slotted 10 59).budget.slots[n]).start ≠ 11 := by
  decide
theorem witness_ClockSet :
    (shop emptyF).admits (hdr 4) .clockSet 4 ∧ (6 : Byte).toNat ≤ 6 ∧ (1439 : Half).toNat ≤ 1439 ∧ (59 : Byte).toNat ≤ 59 ∧
      6 < (7 : Byte).toNat ∧ 1439 < (1440 : Half).toNat ∧ 59 < (60 : Byte).toNat :=
  ⟨admitsSup _ _ _ (by decide), by decide⟩
theorem witness_ScheduleSet :
    let s := slotted 10 58
    s.admits (hdr 7) .scheduleSet 7 ∧ finOf 12 11 = some 11 ∧ finOf 12 12 = none ∧
      ((127 : Byte).toNat < 128 ∧ (1439 : Half).toNat ≤ 1439 ∧ (30000 : Half).toNat ≤ 30000) ∧
      (∃ day : Fin 7, (s.budget.slots[(11 : Fin 12)]).days.getLsbD day = true ∧
        ((127 : Byte).setWidth 7).getLsbD day = true) ∧
      (s.budget.slots[(11 : Fin 12)]).enabled = true ∧ (s.budget.slots[(11 : Fin 12)]).start = (0 : Half).toNat ∧
      ∀ m : Fin 12, m ≠ 11 → (s.budget.slots[m]).enabled = false :=
  ⟨admitsSup _ _ _ (by decide), by decide⟩
/-- A fall of B in RUNNING, none, and CONFIGURING. -/
theorem witness_CeilingOverride :
    let s := shop holdingF
    s.admits (hdr 2) .ceilingOverride 2 ∧ ¬s.budget.site ≤ min (0 : Half).toNat 30000 - s.drawNow ∧
      s.budget.site ≤ min (65535 : Half).toNat 30000 - s.drawNow ∧ idleShop.part = .configuring :=
  ⟨admitsSup _ _ _ (by decide), by decide⟩
theorem witness_SetClass :
    let s := shop { holdingF with power := { Power.fresh with rush := 1 } }
    s.admits (hdr 2) .setClass 2 ∧ idleShop.admits (hdr 2) .setClass 2 ∧ s.part = .running ∧
      idleShop.part = .configuring ∧ 6 ≤ (6 : Byte).toNat ∧ 5 ≤ (5 : Byte).toNat ∧ finOf 6 5 = some 5 ∧
      classOf 4 = some .critical ∧ classOf 0 = some .defer ∧ s.configured 5 = false ∧ s.configured 1 = true :=
  ⟨admitsSup _ _ _ (by decide), admitsSup _ _ _ (by decide), by decide⟩
theorem witness_RushAllowance :
    let s := shop { holdingF with power := { Power.fresh with rush := 1, setClass := .critical, effClass := .critical } }
    (s.port (hdr 3).port).replies.length < 4 ∧ (s.port (deckHdr 3).port).replies.length < 4 ∧
      (deckHdr 3).port = .deck ∧ (hdr 3).port = .sup ∧ idleShop.part = .configuring ∧ s.part = .running ∧
      3600 < (3601 : Half).toNat ∧ (3600 : Half).toNat ≤ 3600 ∧ s.configured 1 = true ∧ s.configured 0 = false ∧
      (s.furnace 1).power.setClass = .critical ∧ (0 : Half).toNat = 0 := by decide
theorem witness_PeriodPass :
    let s := shop superF
    ({ s with periodTimer := none } : State).periodTimer = none ∧ s.periodTimer.isSome = true ∧ s.part = .running ∧
      idleShop.part = .configuring ∧
      (∀ (u : SupplyId) (k : SupplyCfg), s.supplyCfg u = some k → (s.supply u).state = .idle → s.inputs[u].fault = true →
        k.noRetry = false ∧ (s.supply u).attempts < 4) ∧ s.group 1 = .working ∧
      0 < s.budget.site ∧ 0 < figureIn s.takeFloor.figures 1 := by
  have quiet : ∀ u : SupplyId, (shop superF).inputs[u].fault ≠ true := by decide
  exact ⟨by decide, by decide, by decide, by decide, fun u k _ _ h => absurd h (quiet u), by decide⟩
/-- A supply that starts with its fault input asserted, at count 3 (the reset is next) and at count 4 (no retry is left). -/
theorem witness_PeriodPass_faulted :
    let at' (n : Nat) : State :=
      settled { shop superF with supplies := State.reset.supplies.set 0 ⟨.idle, n, 0, none, false⟩
                                 inputs := State.reset.inputs.set 0 ⟨false, true⟩ }
    (∀ s ∈ [at' 3, at' 4], s.periodTimer.isSome = true ∧ s.part = .running ∧ s.supplyCfg 0 = some cfgS ∧
      (s.supply 0).state = .idle ∧ (s.supply 0).total = 0 ∧ s.inputs[(0 : SupplyId)].fault = true ∧
      0 < ((s.furnacesOn 0).map (figureIn s.takeFloor.figures)).sum) ∧
      (cfgS.noRetry = false ∧ ((at' 3).supply 0).attempts < 4) ∧ 4 ≤ ((at' 4).supply 0).attempts ∧ PlantSound (at' 4) :=
  ⟨by decide, by decide, by decide, plantSound_of_check (by decide)⟩
/-- A starving furnace at the last period before its grant, one with a grant in its last period, a rush allowance in its
last second, and B = 0. -/
theorem witness_PeriodPass_counts :
    let low := settled { shop superF with budget := { (shop superF).budget with ceiling := 151 } }
    let p := (low.furnace 1).power
    let s := settled (low.setFurnace 1
      { low.furnace 1 with power := { p with starvCounter := 59, setClass := .critical, rush := 1 } })
    let none := settled { shop superF with budget := { (shop superF).budget with ceiling := 150 } }
    s.budget.site = 1 ∧ figureIn s.takeFloor.figures 1 < min (s.takeFloor.floorOf 1) (s.furnace 1).power.need ∧
      s.site.starvLimit ≤ (s.furnace 1).power.starvCounter + 1 ∧ 0 < figureIn s.takeFloor.figures 1 ∧ none.budget.site = 0 := by
  decide

/-! ## Hypotheses met: supplies -/

def failedS0 : State := supplyShop ⟨.failed, 5, 0, none, false⟩ ⟨false, false⟩
def startingS0 : State := supplyShop ⟨.starting, 3, 100, some ⟨.start, 3⟩, false⟩ ⟨false, false⟩
def runningS0 : State := supplyShop ⟨.running, 1, 100, some ⟨.stableRun, 60⟩, false⟩ ⟨true, false⟩
def retryS0 : State := supplyShop ⟨.retryWait, 3, 100, some ⟨.retry, 2⟩, false⟩ ⟨false, false⟩
def resetS0 : State := supplyShop ⟨.resetting, 4, 100, some ⟨.resetHold, 5⟩, true⟩ ⟨false, false⟩

theorem witness_SupplyReset :
    PlantSound failedS0 ∧ failedS0.admits (hdr 1) .supplyReset 1 ∧ finOf 2 0 = some 0 ∧
      failedS0.supplyCfg 0 = some cfgS ∧ (failedS0.supply 0).state = .failed ∧ (retryS0.supply 0).state ≠ .failed ∧
      2 ≤ (2 : Byte).toNat ∧ finOf 2 1 = some 1 ∧ failedS0.supplyCfg 1 = none :=
  ⟨plantSound_of_check (by decide), admitsSup _ _ _ (by decide), by decide⟩
/-- The attempt that reaches 4 is a start timeout at count 3; without a retry every attempt fails. -/
theorem witness_SupplyTimers :
    PlantSound startingS0 ∧ startingS0.supplyCfg 0 = some cfgS ∧ (startingS0.supply 0).timer = some ⟨.start, 3⟩ ∧
      (startingS0.supply 0).state = .starting ∧ (startingS0.supply 0).attempts + 1 = 4 ∧ cfgS.noRetry = false ∧
      ((retryS0.supply 0).timer = some ⟨.retry, 2⟩ ∧ (retryS0.supply 0).state = .retryWait ∧
        retryS0.inputs[(0 : SupplyId)].fault = false) ∧
      ((resetS0.supply 0).timer = some ⟨.resetHold, 5⟩ ∧ (resetS0.supply 0).state = .resetting ∧
        resetS0.inputs[(0 : SupplyId)].fault = false) ∧
      ((runningS0.supply 0).timer = some ⟨.stableRun, 60⟩ ∧ (runningS0.supply 0).state = .running) ∧
      (failedS0.supply 0).timer = none :=
  ⟨plantSound_of_check (by decide), by decide⟩
/-- No timer runs; a START_TIMER_EXPIRY meets the stable-run timer, and the other three expiries the start timer. -/
theorem witness_SupplyTimers_idle :
    let runs (s : State) (x : SupplyState) (w : SupplyTimer) : Prop :=
      (s.supply 0).state = x ∧ ∃ d, (s.supply 0).timer = some d ∧ d.which = w
    ¬runs failedS0 .starting .start ∧ ¬runs runningS0 .starting .start ∧ ¬runs startingS0 .retryWait .retry ∧
      ¬runs startingS0 .resetting .resetHold ∧ ¬runs startingS0 .running .stableRun :=
  ⟨fun h => absurd h.1 (by decide), fun h => absurd h.1 (by decide), fun h => absurd h.1 (by decide),
    fun h => absurd h.1 (by decide), fun h => absurd h.1 (by decide)⟩
theorem witness_SupplyTimers_faulted :
    let s := supplyShop ⟨.retryWait, 3, 100, some ⟨.retry, 2⟩, false⟩ ⟨false, true⟩
    let t := supplyShop ⟨.resetting, 4, 100, some ⟨.resetHold, 5⟩, true⟩ ⟨true, true⟩
    PlantSound s ∧ PlantSound t ∧ s.inputs[(0 : SupplyId)].fault = true ∧ (s.supply 0).state = .retryWait ∧
      (s.supply 0).timer = some ⟨.retry, 2⟩ ∧ t.inputs[(0 : SupplyId)].fault = true ∧ (t.supply 0).state = .resetting ∧
      (t.supply 0).timer = some ⟨.resetHold, 5⟩ :=
  ⟨plantSound_of_check (by decide), plantSound_of_check (by decide), by decide⟩
theorem witness_SupplyInputs :
    startingS0.inputs[(0 : SupplyId)] = ⟨false, false⟩ ∧ (startingS0.supply 0).state = .starting ∧
      runningS0.inputs[(0 : SupplyId)] = ⟨true, false⟩ ∧ (runningS0.supply 0).state = .running ∧
      ((failedS0.supply 0).state ≠ .starting ∧ (failedS0.supply 0).state ≠ .running) ∧
      (supplyShop ⟨.starting, 0, 100, some ⟨.start, 3⟩, false⟩ ⟨false, true⟩).inputs[(0 : SupplyId)].fault = true := by
  decide

/-! ## Hypotheses met: cooling -/

def scanning (s : State) : State := { s with line := .scanning .periodic }

theorem witness_ScanStarts :
    (shop emptyF).scanTimer = some 500 ∧ (shop emptyF).line = .idle ∧
      (scanning (shop emptyF)).line = .scanning .periodic ∧ (shop emptyF).site.alarmStarts = true ∧
      ({ (shop emptyF).site with alarmStarts := false } : Site).alarmStarts = false := by decide
/-- From each condition; present readings at the bounds 1000 and 120, and just beyond them. -/
theorem witness_ConditionJudgement :
    let a : StationAnswer := ⟨1000, 120, true⟩
    (scanning (shop emptyF)).line = .scanning .periodic ∧ (scanning (shop emptyF)).circuitCfg 3 = some cfgC ∧
      (a.checkAgrees = true ∧ a.first ≤ 1000 ∧ a.second ≤ 120) ∧
      ((⟨1001, 0, true⟩ : StationAnswer).first > 1000 ∧ (⟨0, 121, true⟩ : StationAnswer).second > 120) ∧
      ((shop emptyF).circuit 3).condition = .normal ∧
      ((circuitShop emptyF { Circuit.fresh with condition := .warn }).circuit 3).condition = .warn ∧
      ((circuitShop emptyF { Circuit.fresh with condition := .lost, misses := 2 }).circuit 3).condition = .lost ∧
      ((circuitShop emptyF { Circuit.fresh with misses := 1 }).circuit 3).misses = 1 := by decide
theorem witness_ScanCompletion :
    let s := scanning (shop holdingF)
    s.line = .scanning .periodic ∧ PlantSound s ∧ DerivedSound s ∧ (shop holdingF).line = .idle ∧
      s.loopCfg 1 = some cfgL ∧ s.loopCfg 0 = none ∧ s.circuitCfg 3 = some cfgC ∧ s.circuitCfg 0 = none :=
  ⟨rfl, plantSound_of_check (by decide), by constructor <;> decide, by decide⟩
/-- The trip that a tap in progress meets: C3 reads flow 99, below its trip at 100, and F1 becomes held. -/
theorem witness_ScanCompletion_trip :
    let s := scanning (tapShop .started .tapping 146000 5000)
    let answers : Slots := ⟨Vector.replicate 16 (some ⟨99, 30, true⟩), Vector.replicate 4 (some ⟨300, 50, true⟩)⟩
    let t := after (.scanCompletion answers) s
    PlantSound s ∧ DerivedSound s ∧
      ((1 : FurnaceId) ∈ t.held ∧ (1 : FurnaceId) ∉ s.held ∧
        (s.queue.find? fun r => r.assigned = some 1 ∧ r.state = .started) = some (tap .started (some 1))) :=
  ⟨plantSound_of_check (by decide), by constructor <;> decide, by decide⟩
/-- The second low pressure in a row with an empty tank: L1 is LOST and raises over F1, and the request of C3 is withdrawn. -/
theorem witness_ScanCompletion_lost :
    let c : Circuit := { Circuit.fresh with condition := .trip, request := .pending }
    let x := circuitShop emptyF c
    let s := scanning (x.setLoop 1 { Loop.fresh with primaryFails := 1, tankFails := 1 })
    let answers : Slots := ⟨Vector.replicate 16 (some ⟨200, 30, true⟩), Vector.replicate 4 (some ⟨100, 10, true⟩)⟩
    let t := after (.scanCompletion answers) s
    PlantSound s ∧ DerivedSound s ∧
      ((s.loop 1).request = .none ∧ (t.loop 1).request = .pending ∧ (t.loop 1).state = .lost ∧
        (t.circuit 3).request = .none ∧ (1 : FurnaceId) ∈ s.loopAffectedBy 1) :=
  ⟨plantSound_of_check (by decide), by constructor <;> decide, by decide⟩
/-- L1 leaves LOST in RUNNING: the draw of its pump is back and B falls at that change; a LIVE C3 withdraws. -/
theorem witness_ScanCompletion_fall :
    let x := loopShop holdingF { Loop.fresh with state := .lost, primaryFails := 2, tankFails := 2 } .emergency
    let y : State := { x with tables := { x.tables with circuit := x.tables.circuit.set 3 (some { cfgC with sensing := .live }) } }
    let s := scanning (settled (y.setCircuit 3 { Circuit.fresh with condition := .trip, request := .pending }))
    let answers : Slots := ⟨Vector.replicate 16 (some ⟨200, 30, true⟩), Vector.replicate 4 (some ⟨300, 50, true⟩)⟩
    let t := after (.scanCompletion answers) s
    PlantSound s ∧ s.part = .running ∧ t.budget.site < s.budget.site ∧ (t.circuit 3).request = .none ∧
      (t.circuit 3).transient = true ∧ (1 : FurnaceId) ∉ t.held :=
  ⟨plantSound_of_check (by decide), by decide⟩
def emergencyL1 : Loop :=
  { Loop.fresh with state := .emergency, reading := some ⟨300, 80⟩, healthySince := some 0, returnTimer := some 120 }
theorem witness_SupplyHold :
    let s := loopShop holdingF emergencyL1 .emergency
    s.admits (hdr 2) .supplyHold 2 ∧ 4 ≤ (4 : Byte).toNat ∧ 2 ≤ (2 : Byte).toNat ∧ finOf 4 3 = some 3 ∧
      yesNo 1 = some true ∧ yesNo 0 = some false ∧ s.loopCfg 3 = none ∧ s.loopCfg 1 = some cfgL ∧
      (s.loop 1).state = .emergency ∧ ((s.loop 1).primaryFails = 0 ∧ (s.loop 1).reading.isSome = true) :=
  ⟨admitsSup _ _ _ (by decide), by decide⟩
theorem witness_SupplyTestAndReturn :
    let p := loopShop holdingF { Loop.fresh with reading := some ⟨300, 80⟩ } .primary
    let s := loopShop holdingF emergencyL1 .emergency
    DerivedSound p ∧ DerivedSound s ∧ p.admits (hdr 1) .supplyTest 1 ∧ finOf 4 1 = some 1 ∧ p.loopCfg 1 = some cfgL ∧
      ((p.loop 1).state = .primary ∧ (p.loop 1).tankFails = 0 ∧ (p.loop 1).reading.isSome = true) ∧
      ((s.loop 1).state = .emergency ∧ (s.loop 1).returnTimer.isSome = true) ∧
      ((shop holdingF).loop 1).reading = none ∧ ((shop holdingF).loop 1).returnTimer = none ∧
      4 ≤ (4 : Byte).toNat ∧ finOf 4 3 = some 3 ∧ p.loopCfg 3 = none :=
  ⟨by constructor <;> decide, by constructor <;> decide, admitsSup _ _ _ (by decide), by decide⟩

/-! ## Hypotheses met: trips -/

def lostL1 (q : Request) : State :=
  loopShop emptyF { Loop.fresh with state := .lost, primaryFails := 2, tankFails := 2, request := q } .emergency

theorem witness_RotateAndPoll :
    (shop emptyF).admits (hdr 1) .tripRotate 1 ∧ (shop emptyF).admits (hdr 0) .tripPoll 0 ∧ finOf 16 15 = some 15 ∧
      finOf 16 16 = none ∧ DerivedSound (lostL1 .pending) ∧
      ((lostL1 .pending).loopCfg 1).isSome = true ∧ ((lostL1 .pending).loop 1).request = .pending ∧
      ∀ m : LoopId, m < 1 → ((lostL1 .pending).loopCfg m).isSome = false :=
  ⟨admitsSup _ _ _ (by decide), admitsSup _ _ _ (by decide), by decide, by decide, by constructor <;> decide, by decide⟩
/-- A PENDING circuit, and one with a transient mark, with no loop PENDING. -/
theorem witness_RotateAndPoll_circuit :
    let s := circuitShop emptyF { Circuit.fresh with condition := .trip, request := .pending }
    let t := circuitShop emptyF { Circuit.fresh with transient := true }
    DerivedSound s ∧ DerivedSound t ∧ (∀ l : LoopId, ¬(s.loop l).request = .pending) ∧
      (s.circuitCfg 3 = some cfgC ∧ (s.circuit 3).request = .pending) ∧
      (∀ d : CircuitId, (d - s.bottom - 1).val < (3 - s.bottom - 1 : CircuitId).val → (s.circuitCfg d).isSome = false) ∧
      (∀ l : LoopId, ¬(t.loop l).request = .pending) ∧ (∀ c : CircuitId, ¬(t.circuit c).request = .pending) ∧
      t.circuitCfg 3 = some cfgC ∧ (t.circuit 3).transient = true :=
  ⟨by constructor <;> decide, by constructor <;> decide, by decide⟩
theorem witness_TripClear :
    let bad := circuitShop emptyF { Circuit.fresh with condition := .trip, request := .inService }
    let good := circuitShop emptyF { Circuit.fresh with request := .inService }
    PlantSound bad ∧ PlantSound good ∧ DerivedSound bad ∧ DerivedSound good ∧ good.admits (hdr 1) .tripClear 1 ∧
      sourceOf 3 = some (.circuit 3) ∧ sourceOf 17 = some (.loop 1) ∧ (good.circuitCfg 3).isSome = true ∧
      (good.circuit 3).request = .inService ∧ (good.circuit 3).condition.bad = false ∧
      (bad.circuit 3).request = .inService ∧ (bad.circuit 3).condition.bad = true :=
  ⟨plantSound_of_check (by decide), plantSound_of_check (by decide), by constructor <;> decide,
    by constructor <;> decide, admitsSup _ _ _ (by decide), by decide⟩
theorem witness_TripClear_loop :
    let s := loopShop emptyF { Loop.fresh with request := .inService } .primary
    PlantSound s ∧ DerivedSound s ∧ (s.loopCfg 1).isSome = true ∧ (s.loop 1).request = .inService ∧
      (s.loop 1).state ≠ .lost ∧ PlantSound (lostL1 .inService) ∧ DerivedSound (lostL1 .inService) ∧
      ((lostL1 .inService).loop 1).state = .lost ∧ ((lostL1 .inService).loop 1).request = .inService :=
  ⟨plantSound_of_check (by decide), by constructor <;> decide, by decide, by decide, by decide,
    plantSound_of_check (by decide), by constructor <;> decide, by decide⟩
/-- No source; an unconfigured circuit and loop; requests that are not IN_SERVICE. C3 stands in TRIP behind L1's cleared request
and raises. -/
theorem witness_TripClear_refusals :
    let s := shop emptyF
    let x := loopShop emptyF { Loop.fresh with request := .inService } .primary
    let y := settled (x.setCircuit 3 { Circuit.fresh with condition := .trip })
    (sourceOf 20 = none ∧ sourceOf 15 = some (.circuit 15) ∧ s.circuitCfg 15 = none ∧ sourceOf 16 = some (.loop 0) ∧
      s.loopCfg 0 = none ∧ (s.circuit 3).request ≠ .inService ∧ ((lostL1 .pending).loop 1).request ≠ .inService) ∧
      PlantSound y ∧ DerivedSound y ∧
      ((y.circuitCfg 3).any (fun k => k.loop == 1) = true ∧ (y.circuit 3).masked = false ∧ (y.circuit 3).request = .none ∧
        (y.circuit 3).condition.bad = true ∧ (y.loop 1).request = .inService ∧ (y.loop 1).state ≠ .lost) :=
  ⟨by decide, plantSound_of_check (by decide), by constructor <;> decide, by decide⟩
theorem witness_MaskUnmask :
    let s := shop emptyF
    let m := circuitShop emptyF { Circuit.fresh with condition := .lost, misses := 2, masked := true }
    finOf 16 3 = some 3 ∧ finOf 16 16 = none ∧ (s.circuitCfg 3 = some cfgC ∧ s.circuitCfg 15 = none) ∧ PlantSound s ∧ DerivedSound s ∧ PlantSound m ∧ DerivedSound m ∧
      s.admits (hdr 1) .mask 1 ∧ m.admits (hdr 1) .unmask 1 ∧
      (∀ f, s.affects 3 f = true → (s.furnace f).phase = .empty) ∧ (s.circuit 3).masked = false ∧
      (m.circuit 3).masked = true ∧ (m.circuit 3).request = .none ∧ (m.circuit 3).condition.bad = true ∧
      m.loopFree 3 = true ∧ (∀ f, m.affects 3 f = true → (m.furnace f).phase ≠ .tapping) ∧
      ((shop holdingF).affects 3 1 = true ∧ ((shop holdingF).furnace 1).phase ≠ .empty) :=
  ⟨by decide, by decide, by decide, plant_empty, by constructor <;> decide, plantSound_of_check (by decide),
    by constructor <;> decide, admitsSup _ _ _ (by decide), admitsSup _ _ _ (by decide), by decide⟩

/-! ## Hypotheses met: taps -/

def call : TapBody := ⟨255, 1, 3, 0, 0, 0, 8, 300, 0, 60, 0xFF⟩
/-- The ranges of a TAP REQUEST, as its statement spells them out. -/
def callInRange (b : TapBody) : Bool :=
  let listed := [b.g0, b.g1, b.g2, b.g3].take b.count.toNat
  decide (1 ≤ b.id.toNat ∧ 1 ≤ b.count.toNat ∧ b.count.toNat ≤ 4 ∧ 1 ≤ b.ladles.toNat ∧ b.ladles.toNat ≤ 8 ∧
    100 ≤ b.ladleMass.toNat ∧ b.ladleMass.toNat ≤ 10000 ∧ b.openDelay.toNat ≤ 7200 ∧ 60 ≤ b.window.toNat ∧
    b.window.toNat ≤ 3600 ∧ (∀ g ∈ listed, g.toNat < 16) ∧ listed.Nodup ∧ (b.pinned.toNat < 6 ∨ b.pinned = 0xFF))
/-- A request without delay and without a pin, one with a delay and a pin, a taken id and a full queue. -/
theorem witness_TapRequest :
    let s := callShop .waiting
    s.admits (hdr 14) .tapRequest 14 ∧ s.part = .running ∧ callInRange call = true ∧
      ([3] : List GradeId).map (·.val) = ([call.g0, call.g1, call.g2, call.g3].take call.count.toNat).map (·.toNat) ∧
      finOf 6 call.pinned = none ∧ (∀ g ∈ ([3] : List GradeId), (s.gradeCfg g).isSome = true) ∧
      (∀ r ∈ s.queue, r.id ≠ call.id.toNat) ∧ s.queue.length < 16 ∧
      callInRange { call with openDelay := 7200, pinned := 1 } = true ∧ finOf 6 1 = some 1 ∧ s.configured 1 = true ∧
      (∀ g : FurnaceId, s.standby[g] ≠ some 1) ∧ (∃ r ∈ s.queue, r.id = ({ call with id := 9 } : TapBody).id.toNat) ∧
      16 ≤ (List.replicate 16 (tap .waiting none)).length :=
  ⟨admitsSup _ _ _ (by decide), by decide⟩
/-- Each range left at one end, a grade listed twice, and an unconfigured grade and pin. -/
theorem witness_TapRequest_refusals :
    let s := callShop .waiting
    (∀ b ∈ [{ call with id := 0 }, { call with count := 0 }, { call with count := 5 }, { call with ladles := 9 },
        { call with ladleMass := 99 }, { call with openDelay := 7201 }, { call with window := 59 },
        { call with g0 := 16 }, { call with count := 2, g1 := 3 }, { call with pinned := 6 }], callInRange b = false) ∧
      (callInRange { call with g0 := 5 } = true ∧ s.gradeCfg 5 = none) ∧
      (callInRange { call with pinned := 0 } = true ∧ finOf 6 0 = some 0 ∧ s.configured 0 = false) := by decide
/-- A pin on F2, which is the standby of F1. -/
theorem witness_TapRequest_direct :
    let s : State := { shop emptyF with standby := State.reset.standby.set 1 (some 2) }
    s.admits (hdr 14) .tapRequest 14 ∧ callInRange { call with pinned := 2 } = true ∧ finOf 6 2 = some 2 ∧ s.configured 2 = true ∧ s.standby[(1 : FurnaceId)] = some 2 ∧
      s.queue.length < 16 :=
  ⟨admitsSup _ _ _ (by decide), by decide⟩
/-- An OPEN record with an eligible furnace, whose heat is of grade 3, and one with none. -/
theorem witness_TapRequest_matching :
    let s : State := { shop { holdingF with mass := 2700 } with queue := [tap .opened none] }
    PlantSound s ∧ PlantSound (callShop .opened) ∧ tap .opened none ∈ s.queue ∧ s.eligible 1 (tap .opened none) = true ∧
      (s.furnace 1).grade = some 3 ∧ tap .opened none ∈ (callShop .opened).queue ∧
      (∀ x, (callShop .opened).eligible x (tap .opened none) = false) ∧
      s.eligible 1 { tap .opened none with ladles := 5 } = false :=
  ⟨plantSound_of_check (by decide), plantSound_of_check (by decide), by decide⟩
/-- The record of F1, pinned there, is no longer eligible on a failed supply: F2 is F1's standby and eligible on its own
supply S1, and the record moves; without the pairing, or unapproved, it is released. -/
def releaseShop (standby : Option FurnaceId) : State :=
  let s := tapShop .assigned .holding 146000 5000
  settled
    { s with
      tables := { tables with
        supply := tables.supply.set 1 (some cfgS)
        furnace := tables.furnace.set 2 (some { cfgF 0 with supply := 1 }) }
      queue := [{ tap .assigned (some 1) with pinned := some 1 }]
      furnaces := s.furnaces.set 2 { holdingF with heatNo := some 8 }
      supplies := s.supplies.set 0 ⟨.failed, 5, 0, none, false⟩
      standby := s.standby.set 1 standby }
theorem witness_OpenCloseCancel_release :
    let r : Tap := { tap .assigned (some 1) with pinned := some 1 }
    (∀ x ∈ [some 2, none], PlantSound (releaseShop x) ∧ r ∈ (releaseShop x).queue ∧ (releaseShop x).eligible 1 r = false) ∧
      r.assigned = some 1 ∧ (releaseShop (some 2)).supplyFailed 1 = true ∧
      (releaseShop (some 2)).eligible 2 { r with pinned := some 2 } = true ∧
      ((releaseShop (some 2)).furnace 2).grade = some 3 ∧
      (((releaseShop (some 2)).release r 1).furnace 2).assigned = some 9 ∧
      (((releaseShop none).release r 1).queue.map (·.state)) = [.opened] :=
  ⟨fun x hx => ⟨plantSound_of_check (by
      simp only [List.mem_cons, List.not_mem_nil, or_false] at hx; rcases hx with rfl | rfl <;> decide), by
      simp only [List.mem_cons, List.not_mem_nil, or_false] at hx; rcases hx with rfl | rfl <;> decide⟩, by decide⟩
theorem witness_OpenCloseCancel :
    let w := callShop .waiting
    let o : State := { callShop .opened with uptime := 600 }
    let a : State := { tapShop .assigned .holding 146000 5000 with uptime := 600 }
    PlantSound w ∧ PlantSound o ∧ PlantSound a ∧ tap .waiting none ∈ w.queue ∧ (tap .waiting none).openAt ≤ w.uptime ∧
      tap .opened none ∈ o.queue ∧ (tap .opened none).closeAt ≤ o.uptime ∧
      tap .assigned (some 1) ∈ a.queue ∧ (tap .assigned (some 1)).closeAt ≤ a.uptime :=
  ⟨plantSound_of_check (by decide), plantSound_of_check (by decide), plantSound_of_check (by decide), by decide⟩
theorem witness_OpenCloseCancel_cancel :
    let s := tapShop .started .tapping 146000 5000
    s.admits (hdr 1) .tapCancel 1 ∧ s.part = .running ∧ (9 : Byte).toNat = 9 ∧ (9 : Byte) ≠ 0 ∧
      tap .started (some 1) ∈ s.queue ∧ (∀ r ∈ s.queue, r.id ≠ (8 : Byte).toNat) ∧
      (callShop .waiting).admits (hdr 1) .tapCancel 1 :=
  ⟨admitsSup _ _ _ (by decide), by decide, by decide, by decide, by decide, by decide, admitsSup _ _ _ (by decide)⟩
/-- F1 with standby F2: taking F1 itself, a furnace that is one, and a standby that is free, taken or in RELINE. -/
theorem witness_Standby :
    let s := shop emptyF
    let t : State := { s with standby := s.standby.set 1 (some 2) }
    s.part = .running ∧ finOf 6 1 = some 1 ∧ s.configured 1 = true ∧ s.configured 2 = true ∧
      s.admits (hdr 1) .standbyClear 1 ∧ s.admits (hdr 2) .standbySet 2 ∧
      ¬((∃ g : FurnaceId, g ≠ 1 ∧ s.standby[g] = some 2) ∨ (∃ g : FurnaceId, s.standby[g] = some 1) ∨
        s.standby[(2 : FurnaceId)].isSome = true) ∧
      (s.furnace 2).service = .inService ∧ (∃ g : FurnaceId, t.standby[g] = some 2) ∧
      ((shop relineF).furnace 1).service = .reline ∧ 6 ≤ (6 : Byte).toNat ∧ finOf 6 0 = some 0 ∧ s.configured 0 = false :=
  ⟨by decide, by decide, by decide, by decide, admitsSup _ _ _ (by decide), admitsSup _ _ _ (by decide), by decide⟩
/-- A furnace that is fit, and one whose bath is too cold. -/
theorem witness_TapStart :
    let fit := tapShop .assigned .holding 146000 5000
    let cold := tapShop .assigned .superheat 140000 5000
    PlantSound fit ∧ PlantSound cold ∧ fit.admits (hdr 1) .tapStart 1 ∧ fit.part = .running ∧ (9 : Byte) ≠ 0 ∧
      tap .assigned (some 1) ∈ fit.queue ∧ tap .assigned (some 1) ∈ cold.queue ∧
      (tap .assigned (some 1)).id = (9 : Byte).toNat ∧ fit.blockingNow 1 = [] ∧ cold.blockingNow 1 ≠ [] :=
  ⟨plant_assigned, plantSound_of_check (by decide), admitsSup _ _ _ (by decide), by decide⟩
/-- An unknown id, and a record that is not ASSIGNED and not STARTED. -/
theorem witness_TapStart_refusals :
    let s := callShop .waiting
    PlantSound s ∧ s.admits (hdr 1) .tapStart 1 ∧ s.admits (hdr 3) .ladleDone 3 ∧ s.admits (hdr 1) .tapEnd 1 ∧
      s.part = .running ∧ (∀ r ∈ s.queue, r.id ≠ (8 : Byte).toNat) ∧ tap .waiting none ∈ s.queue ∧
      (tap .waiting none).id = (9 : Byte).toNat ∧ (9 : Byte) ≠ 0 ∧ (1 : Half) ≠ 0 ∧
      ∀ r ∈ s.queue, r.state ≠ .assigned ∧ r.state ≠ .started :=
  ⟨plantSound_of_check (by decide), admitsSup _ _ _ (by decide), admitsSup _ _ _ (by decide),
    admitsSup _ _ _ (by decide), by decide⟩
/-- An assigned furnace blocked by DIP_STALE alone, one whose TAP_READY changes, and one without an assignment. -/
theorem witness_TapStart_evaluate :
    let s := tapShop .assigned .holding 146000 5000
    let stale : State := { s with uptime := 601 }
    let x := stale.furnace 1
    PlantSound stale ∧ PlantSound s ∧ stale.furnaceCfg 1 = some (cfgF 0) ∧ stale.blockingNow 1 = [.dipStale] ∧
      tap .assigned (some 1) ∈ stale.queue ∧ (tap .assigned (some 1)).staleSent = false ∧ x.bath.estimate = some 146000 ∧
      (s.furnace 1).tapReady = false ∧ (s.blockingNow 1).isEmpty = true ∧
      ((shop holdingF).furnace 1).assigned = none ∧ PlantSound (shop holdingF) ∧ (shop holdingF).queue = [] :=
  ⟨plantSound_of_check (by decide), plant_assigned, by decide, by decide, by decide, by decide, by decide, by decide,
    by decide, by decide, plant_holding, by decide⟩
/-- A ladle that leaves metal, one that takes the last of it, the last of one ladle, and one after a soft stop. -/
theorem witness_LadlesAndTapEnd :
    let s := tapShop .started .tapping 146000 300
    PlantSound s ∧ s.part = .running ∧ tap .started (some 1) ∈ s.queue ∧ s.admits (hdr 3) .ladleDone 3 ∧
      s.admits (hdr 1) .tapEnd 1 ∧ (1 : Half) ≠ 0 ∧
      0 < (s.furnace 1).mass - min (299 : Half).toNat (s.furnace 1).mass ∧
      (s.furnace 1).mass - min (301 : Half).toNat (s.furnace 1).mass = 0 ∧ (tap .started (some 1)).done + 1 ≠ 4 ∧
      ({ tap .started (some 1) with done := 3 } : Tap).done + 1 = (tap .started (some 1)).ladles ∧
      PlantSound { s with queue := [{ tap .started (some 1) with softStop := true }] } :=
  ⟨plantSound_of_check (by decide), by decide, by decide, admitsSup _ _ _ (by decide), admitsSup _ _ _ (by decide),
    by decide, by decide, by decide, by decide, by decide, plantSound_of_check (by decide)⟩

end Sys2Proof.Tests
end

section
/-! PROOFS. The cooling sensor line and the circuit conditions (chapter 7): what starts a scan, and what a scan completion
makes of a circuit. The circuit slots are taken after the loop slots, which change no circuit, and before the trip controller's
work, which changes no reading, miss count or condition; so a circuit's sensing fields end as its own slot left them. -/

namespace Sys2Proof.Machine

/-! ## The start of a scan (R105 to R107) -/

/-- R69, R91: an event that leaves the budget and the furnaces alone is followed by no reduction pass. -/
theorem State.settleFrom_of_powerKept {now before : State} (hb : now.budget = before.budget)
    (hf : now.furnaces = before.furnaces) : now.settleFrom before = now := by
  have hfallen : now.fallenSince before = false := by simp [State.fallenSince, State.furnace, hb, hf]
  simp [State.settleFrom, State.settle, hfallen]

theorem event_of_powerKept {f : State → State} {s : State} (hb : (f s).budget = s.budget)
    (hf : (f s).furnaces = s.furnaces) : event f s = .next (f s) := by
  rw [event, State.settleFrom_of_powerKept hb hf]

theorem exec_scanPeriodExpiry (s : State) : exec .scanPeriodExpiry s = .next s.expireScan := by
  refine event_of_powerKept ?_ ?_
  all_goals
    unfold State.expireScan
    split
    · dsimp only
      split <;> rfl
    · rfl

theorem exec_stationStart (s : State) : exec .stationStart s =
    .next (if s.site.alarmStarts && s.line == .idle then { s with line := .scanning .alarm } else s) := by
  refine event_of_powerKept ?_ ?_ <;> split <;> rfl

/-- Settles O48: both starts look at the line, and neither touches what a reduction pass follows. -/
theorem scanStarts : Obligations.ScanStarts := by
  intro s
  refine ⟨fun n hn => ⟨fun hl => ?_, fun x hl => ?_⟩, fun ha hl => ?_, fun x h => ?_⟩
  · simp [exec_scanPeriodExpiry, State.expireScan, hn, hl]
  · simp [exec_scanPeriodExpiry, State.expireScan, hn, hl]
  · simp [exec_stationStart, ha, hl]
  · rcases h with ha | hl
    · simp [exec_stationStart, ha]
    · simp [exec_stationStart, hl]

/-! ## A circuit's slot (R108, R111) -/

theorem present_eq_none {m n : Nat} {a : Option StationAnswer}
    (h : a = none ∨ ∃ b, a = some b ∧ (b.checkAgrees = false ∨ m < b.first ∨ n < b.second)) : present m n a = none := by
  rcases h with rfl | ⟨b, rfl, hc | hm | hn⟩
  · rfl
  · simp [present, hc]
  · simp [present, Nat.not_le.mpr hm]
  · simp [present, Nat.not_le.mpr hn]

theorem present_eq_some {m n : Nat} {b : StationAnswer} (hc : b.checkAgrees = true) (hm : b.first ≤ m) (hn : b.second ≤ n) :
    present m n (some b) = some (b.first, b.second) := by
  simp [present, hc, hm, hn]

/-- R111: an absent slot keeps the reading and counts a miss up to 2, the second of which makes the condition LOST. -/
theorem Circuit.takeSlot_absent (x : Circuit) (k : CircuitCfg) {a : Option StationAnswer} (h : present 1000 120 a = none) :
    (x.takeSlot k a).reading = x.reading ∧ (x.takeSlot k a).misses = (if 1 ≤ x.misses then max 2 x.misses else 1) ∧
      (x.takeSlot k a).condition = if x.misses = 1 then .lost else x.condition := by
  unfold Circuit.takeSlot
  rw [h]
  rcases (by omega : x.misses = 0 ∨ x.misses = 1 ∨ 2 ≤ x.misses) with h0 | h1 | h2
  · simp [h0]
  · simp [h1]
  · have hne0 : x.misses ≠ 0 := by omega
    have hne1 : x.misses ≠ 1 := by omega
    have hpos : 1 ≤ x.misses := by omega
    simp [hne0, hne1, hpos, h2]

/-- R111: a present slot replaces the reading, resets the misses and has the condition judged. -/
theorem Circuit.takeSlot_present (x : Circuit) (k : CircuitCfg) {a : Option StationAnswer} {flow temp : Nat}
    (h : present 1000 120 a = some (flow, temp)) :
    x.takeSlot k a =
      { x with reading := some ⟨flow, temp⟩, misses := 0, condition := k.judge ⟨flow, temp⟩ x.condition } := by
  unfold Circuit.takeSlot
  rw [h]

/-! ## The level tests (R112) -/

theorem CircuitCfg.tripLevel_iff (k : CircuitCfg) (flow temp : Nat) :
    k.tripLevel ⟨flow, temp⟩ = true ↔ flow < k.flowTrip ∨ k.tempTrip < temp := by simp [CircuitCfg.tripLevel]

theorem CircuitCfg.warnLevel_iff (k : CircuitCfg) (flow temp : Nat) :
    k.warnLevel ⟨flow, temp⟩ = true ↔ flow < k.flowWarn ∨ k.tempWarn < temp := by simp [CircuitCfg.warnLevel]

/-- The temperature limit is a difference that may lie below 0. -/
theorem CircuitCfg.tripClear_iff (k : CircuitCfg) (flow temp : Nat) : k.tripClear ⟨flow, temp⟩ = true ↔
    k.flowTrip + k.flowHyst ≤ flow ∧ (temp : Int) ≤ (k.tempTrip : Int) - k.tempHyst := by
  simp only [CircuitCfg.tripClear, Bool.and_eq_true, decide_eq_true_eq]
  omega

theorem CircuitCfg.warnClear_iff (k : CircuitCfg) (flow temp : Nat) : k.warnClear ⟨flow, temp⟩ = true ↔
    k.flowWarn + k.flowHyst ≤ flow ∧ (temp : Int) ≤ (k.tempWarn : Int) - k.tempHyst := by
  simp only [CircuitCfg.warnClear, Bool.and_eq_true, decide_eq_true_eq]
  omega

/-! ## What keeps the circuits' sensing fields (R110) -/

/-- No circuit's reading, misses or condition differs. -/
structure SensingKept (s t : State) : Prop where
  reading : ∀ c, (t.circuit c).reading = (s.circuit c).reading
  misses : ∀ c, (t.circuit c).misses = (s.circuit c).misses
  condition : ∀ c, (t.circuit c).condition = (s.circuit c).condition

theorem SensingKept.of_circuits {s t : State} (h : t.circuits = s.circuits) : SensingKept s t := by
  constructor <;> intro c <;> simp only [State.circuit, h]

theorem SensingKept.refl (s : State) : SensingKept s s := .of_circuits rfl

theorem SensingKept.trans {s t u : State} (a : SensingKept s t) (b : SensingKept t u) : SensingKept s u :=
  ⟨fun c => (b.reading c).trans (a.reading c), fun c => (b.misses c).trans (a.misses c),
    fun c => (b.condition c).trans (a.condition c)⟩

theorem SensingKept.foldl {α : Type} {g : State → α → State} (h : ∀ s a, SensingKept s (g s a)) (l : List α) :
    ∀ s, SensingKept s (l.foldl g s) := by
  induction l with
  | nil => exact SensingKept.refl
  | cons a l ih => exact fun s => (h s a).trans (ih (g s a))

theorem TapFrame.sensingKept {s t : State} (h : TapFrame s t) : SensingKept s t := .of_circuits h.only.circuits

theorem SensingKept.setCircuit (s : State) (c : CircuitId) {r : Circuit} (hr : r.reading = (s.circuit c).reading)
    (hm : r.misses = (s.circuit c).misses) (hc : r.condition = (s.circuit c).condition) :
    SensingKept s (s.setCircuit c r) := by
  constructor
  all_goals
    intro d
    rw [State.circuit_setCircuit]
    by_cases h : c = d
    · subst h
      simp only [if_true, hr, hm, hc]
    · rw [if_neg h]

/-- R134, R135: a raise and a withdrawal write the request state and the transient mark. -/
theorem SensingKept.conditionChange (x : TripChange) (c : CircuitId) (old new : Condition) :
    SensingKept x.st (x.conditionChange c old new).st := by
  unfold TripChange.conditionChange
  dsimp only
  split
  · exact .setCircuit x.st c rfl rfl rfl
  · split
    · exact .setCircuit x.st c rfl rfl rfl
    · exact .refl _

/-- R137: the requests withdrawn by a lost loop. -/
theorem SensingKept.loopChange (x : TripChange) (l : LoopId) (new : LoopState) :
    SensingKept x.st (x.loopChange l new).st := by
  unfold TripChange.loopChange
  split
  · refine SensingKept.trans (.of_circuits (t := x.st.setLoop l { x.st.loop l with request := .pending }) rfl)
      (SensingKept.foldl (fun t c => ?_) _ _)
    exact .setCircuit t c rfl rfl rfl
  · exact .refl _

theorem SensingKept.take (k : SourceChange) (x : TripChange) : SensingKept x.st (k.take x).st := by
  cases k with
  | loop l old new => exact .loopChange x l new
  | circuit c old new => exact .conditionChange x c old new

/-- R132, steps 2 to 6: once the trip-held set is written, the rest has the frame of the tap scheduler. -/
theorem TapFrame.commitSeeing (x : TripChange) (seen : State → State) :
    TapFrame { x.st with held := (seen x.st).heldNow } (x.commitSeeing seen) := by
  unfold TripChange.commitSeeing
  dsimp only
  generalize (seen x.st).heldNow = now
  have hzero := (TapFrame.foldl TapFrame.zeroFurnace (now.filter fun f => !x.st.held.contains f)
    { x.st with held := now }).trans (.refreshPower _)
  have hfault := hzero.trans (TapFrame.foldl (fun t (r : Raise) => TapFrame.foldl
    (g := fun t f => t.writeFault f (.cooling r.code r.source t.uptime)) (fun t f => .writeFault t f _) r.written t)
    x.raises _)
  have hnotice := hfault.trans (TapFrame.foldl (g := fun t (n : TripNotice) => t.notify (.trip { n with held := now }))
    (fun t n => .notify t _) x.notices _)
  exact .ite hnotice (hnotice.trans (.tapChange ..))

theorem SensingKept.commitSeeing (x : TripChange) (seen : State → State) : SensingKept x.st (x.commitSeeing seen) :=
  .of_circuits (TapFrame.commitSeeing x seen).only.circuits

theorem SensingKept.handChanges (l : List SourceChange) : ∀ s, SensingKept s (State.handChanges l s) := by
  induction l with
  | nil => exact SensingKept.refl
  | cons x l ih => exact fun s => ((SensingKept.take x s.tripStart).trans (.commitSeeing _ _)).trans (ih _)

/-! ## The slots of a scan (R109) -/

theorem State.takeLoop_circuits (x : State × List SourceChange) (l : LoopId) (a : Option StationAnswer) :
    (State.takeLoop x l a).1.circuits = x.1.circuits := by
  obtain ⟨s, changes⟩ := x
  unfold State.takeLoop
  dsimp only
  split
  · rfl
  · split <;> rfl

theorem State.takeLoops_circuits (s : State) (slots : Slots) (ls : List LoopId) :
    (s.takeLoops slots ls).1.circuits = s.circuits :=
  List.foldlRecOn (motive := fun x => x.1.circuits = s.circuits) ls _ rfl
    fun x h l _ => (takeLoop_circuits x l _).trans h

theorem State.takeCircuit_self {x : State × List SourceChange} {c : CircuitId} {k : CircuitCfg} (a : Option StationAnswer)
    (hk : x.1.circuitCfg c = some k) : (State.takeCircuit x c a).1.circuit c = (x.1.circuit c).takeSlot k a := by
  obtain ⟨s, changes⟩ := x
  simp only at hk
  simp [State.takeCircuit, hk, State.circuit_setCircuit]

theorem State.takeCircuit_other (x : State × List SourceChange) {c d : CircuitId} (a : Option StationAnswer) (h : c ≠ d) :
    (State.takeCircuit x c a).1.circuit d = x.1.circuit d := by
  obtain ⟨s, changes⟩ := x
  unfold State.takeCircuit
  dsimp only
  split
  · rfl
  · exact (State.circuit_setCircuit ..).trans (if_neg h)

theorem State.takeCircuit_circuitCfg (x : State × List SourceChange) (c d : CircuitId) (a : Option StationAnswer) :
    (State.takeCircuit x c a).1.circuitCfg d = x.1.circuitCfg d := by
  simp only [State.circuitCfg, (Quiet.takeCircuit x c a).tables]

/-- R109, step 2: the circuit slots, those of these circuits, taken in order. -/
def State.takeCircuits (x : State × List SourceChange) (slots : Slots) (cs : List CircuitId) : State × List SourceChange :=
  cs.foldl (fun y c => State.takeCircuit y c slots.circuits[c]) x

theorem State.takeCircuits_of_not_mem (slots : Slots) {c : CircuitId} {cs : List CircuitId} (hc : c ∉ cs)
    (x : State × List SourceChange) : (State.takeCircuits x slots cs).1.circuit c = x.1.circuit c :=
  List.foldlRecOn (motive := fun y => y.1.circuit c = x.1.circuit c) cs _ rfl
    fun y h _ hd => (takeCircuit_other y _ (ne_of_mem_of_not_mem hd hc)).trans h

/-- Each circuit takes its own slot, once. -/
theorem State.takeCircuits_of_mem (slots : Slots) {c : CircuitId} {k : CircuitCfg} {cs : List CircuitId} (hn : cs.Nodup)
    (hc : c ∈ cs) : ∀ x : State × List SourceChange, x.1.circuitCfg c = some k →
      (State.takeCircuits x slots cs).1.circuit c = (x.1.circuit c).takeSlot k slots.circuits[c] := by
  induction cs with
  | nil => cases hc
  | cons d cs ih =>
    obtain ⟨hd, hn⟩ := List.nodup_cons.mp hn
    intro x hk
    by_cases e : d = c
    · subst e
      exact (takeCircuits_of_not_mem slots hd _).trans (takeCircuit_self _ hk)
    · have hmem : c ∈ cs := (List.mem_cons.mp hc).resolve_left fun h => e h.symm
      refine (ih hn hmem _ ((takeCircuit_circuitCfg x d c _).trans hk)).trans ?_
      rw [takeCircuit_other x _ e]

theorem mem_circuitIds : ∀ c : CircuitId, c ∈ circuitIds := by decide
theorem nodup_circuitIds : circuitIds.Nodup := by decide

/-- R109, steps 1 and 2: the line is IDLE, the completion noted, and every slot of the scan taken. -/
def State.slotsTaken (s : State) (slots : Slots) (x : ScanCause) : State :=
  (State.takeCircuits (State.takeLoops { s with line := .idle, lastScan := some ⟨s.uptime, x⟩ } slots loopIds) slots
    circuitIds).1

theorem State.slotsTaken_circuit {s : State} (slots : Slots) (x : ScanCause) {c : CircuitId} {k : CircuitCfg}
    (hk : s.circuitCfg c = some k) : (s.slotsTaken slots x).circuit c = (s.circuit c).takeSlot k slots.circuits[c] := by
  refine (takeCircuits_of_mem (k := k) slots nodup_circuitIds (mem_circuitIds c) _ ?_).trans ?_
  · rw [State.circuitCfg, (Quiet.takeLoops ..).tables]
    exact hk
  · rw [State.circuit, takeLoops_circuits]
    rfl

/-- R109, step 3: what follows the slots, the reduction pass included, leaves the circuits' sensing fields. -/
theorem SensingKept.settle_completeScan (slots : Slots) {s : State} {x : ScanCause} (hl : s.line = .scanning x)
    (fell : Bool) : SensingKept (s.slotsTaken slots x) ((s.completeScan slots).settle fell) := by
  refine .trans ?_ (TapFrame.settle _ fell).sensingKept
  unfold State.completeScan
  rw [hl]
  exact .trans (.handChanges _ _) (TapFrame.refreshPower _).sensingKept

/-- R109, R111: after a scan completion a configured circuit's sensing fields are those that its slot left. -/
theorem exec_scanCompletion_circuit (slots : Slots) {s : State} {x : ScanCause} {c : CircuitId} {k : CircuitCfg}
    (hl : s.line = .scanning x) (hk : s.circuitCfg c = some k) :
    ∃ t, exec (.scanCompletion slots) s = .next t ∧
      let r := (s.circuit c).takeSlot k slots.circuits[c]
      (t.circuit c).reading = r.reading ∧ (t.circuit c).misses = r.misses ∧ (t.circuit c).condition = r.condition := by
  have kept := SensingKept.settle_completeScan slots hl (s.fellInScan slots)
  refine ⟨_, rfl, ?_⟩
  rw [← State.slotsTaken_circuit slots x hk]
  exact ⟨kept.reading c, kept.misses c, kept.condition c⟩

/-- Settles O49: a circuit's sensing fields end as its slot left them, and the slot is absent or has the condition judged by
the level tests from the condition it finds. -/
theorem conditionJudgement : Obligations.ConditionJudgement := by
  intro slots s x c k hl hk
  obtain ⟨t, ht, hreading, hmisses, hcondition⟩ := exec_scanCompletion_circuit slots hl hk
  refine ⟨t, ht, fun habsent => ?_, fun a ha hcheck hfirst hsecond => ?_⟩
  · rw [hreading, hmisses, hcondition]
    exact Circuit.takeSlot_absent _ k (present_eq_none habsent)
  · have hslot := Circuit.takeSlot_present (s.circuit c) k (ha ▸ present_eq_some hcheck hfirst hsecond)
    rw [hreading, hmisses, hcondition, hslot]
    refine ⟨rfl, rfl, fun h => ?_, fun h => ?_, fun h => ?_⟩
    · simp only [h, CircuitCfg.judge, CircuitCfg.tripLevel_iff, CircuitCfg.warnLevel_iff]
    · simp only [h, CircuitCfg.judge, CircuitCfg.tripLevel_iff, CircuitCfg.warnClear_iff]
    · rcases h with h | h <;>
        simp only [h, CircuitCfg.judge, CircuitCfg.tripClear_iff, CircuitCfg.warnClear_iff]

end Sys2Proof.Machine
end
